-- ==== Sys2Proof/Word.lean ====
section
/-! DEFINITION. The two word types of the JW-84: the byte every frame is made of (Section 12.1), and the
twenty bits of a cabin code (five BCD digits, R14). -/

namespace Sys2Proof

/-- One byte of a lane frame or of a command-link frame. -/
abbrev Byte := BitVec 8

/-- Five BCD digits, the tens digit of the deck in the highest nibble (R14). The filler nibble of the
three-byte field is no part of the code (R175). -/
abbrev CabinCode := BitVec 20

end Sys2Proof
end

