-- ==== Sys2Proof/Config.lean ====
section
/-! DEFINITION. What is fixed for the machine: the intervals and sizes the spec gives once for several
chapters, and the values the spec leaves open (opaque constants: nothing proves a value of them). -/

namespace Sys2Proof.Config

/-- Store units of the record store (Chapter 1). -/
def storeUnits : Nat := 24576

/-- Time-base periods of a scrub (R9). -/
def scrubPeriods : Nat := 1311

/-- Time-base periods for which a level must hold to be qualified (R132). -/
def qualifyPeriods : Nat := 1311

/-- Time-base periods of one second arrival (R148). -/
def secondPeriods : Nat := 32768

/-- The highest value of the voyage second, at which the count stays (R147, R148). -/
def lastVoyageSecond : Nat := 4294967295

/-- The rollover guard in voyage seconds (R149). -/
def rolloverGuard : Nat := 72000

/-- The greatest stored credit line and day limit, in cents (R37, R75). -/
def greatestLimit : Nat := 10000000

/-- FREE VALUE (log entry 2). The value bytes the part sends in place of an absent optional field: the spec gives
the marker and that the value bytes are present, and states no value for them (R175). The first argument
is the counter `State.draws` at the response, the second the byte's place in the field. -/
opaque absentByte : Nat → Nat → Byte

/-- FREE VALUE (log entry 3). How many time-base periods of the current second have already been counted when SET_CLOCK
sets the running flag of a stopped clock: the spec states none (R148, R151). The argument is the counter `State.draws`. -/
opaque clockPhase : Nat → Fin 32768

/-- FREE VALUE (log entry 11). The result code of DUPLICATE: Section 12.3 lists every result code but this one. -/
opaque duplicateCode : Byte

end Sys2Proof.Config
end

