-- ==== Sys2Proof/Syntax.lean ====
section
/-! DEFINITION. The commands of the block: one constructor for each row of spec/opcode_table.json, with the row's
operands as they reach the part. A host command carries its frame as the command link shifts it in (R166,
R167): the length and the payload bytes are operands, so that a wrong length and an unknown field value are
commands too. A request is taken by a lane's dispatcher from the head of the lane's queue (R158), so its
operand is the lane. -/

namespace Sys2Proof

/-- The level of a line. -/
inductive Level where
  | high
  | low
  deriving DecidableEq, Repr

/-- A frame of the command link after its command code: the tag, the payload length of the header and the
payload bytes shifted in before SEL was released (Section 11.1). -/
structure HostFrame where
  tag     : Byte
  length  : Byte
  payload : List Byte
  deriving DecidableEq, Repr

/-- A STATUS or FETCH transaction: the tag and length of its header, and the number of bytes the host clocks
out after the header before it releases SEL (R166). -/
structure Readout where
  tag     : Byte
  length  : Byte
  clocked : Nat
  deriving DecidableEq, Repr

/-- The commands and events of spec/opcode_table.json, in the table's order. -/
inductive Instr where
  | coldStart
  | warmStart
  | scrubComplete
  | shortTransaction (bytes : List Byte)
  | unknownCommandFrame (code : Byte) (frame : HostFrame)
  | status (readout : Readout)
  | fetch (readout : Readout)
  | configureStore (frame : HostFrame)
  | readStore (frame : HostFrame)
  | lockVoyage (frame : HostFrame)
  | endVoyage (frame : HostFrame)
  | setDeck (frame : HostFrame)
  | setLaneDecks (frame : HostFrame)
  | issueCard (frame : HostFrame)
  | reissueCard (frame : HostFrame)
  | suspendCard (frame : HostFrame)
  | restoreCard (frame : HostFrame)
  | retireCard (frame : HostFrame)
  | readCard (frame : HostFrame)
  | enrolGuest (frame : HostFrame)
  | amendGuest (frame : HostFrame)
  | departGuest (frame : HostFrame)
  | retireGuest (frame : HostFrame)
  | lookupGuest (frame : HostFrame)
  | readGuest (frame : HostFrame)
  | findGuests (frame : HostFrame)
  | setCabin (frame : HostFrame)
  | setOverride (frame : HostFrame)
  | clearOverride (frame : HostFrame)
  | readOverrides (frame : HostFrame)
  | readCabin (frame : HostFrame)
  | openFolio (frame : HostFrame)
  | amendFolio (frame : HostFrame)
  | postPayment (frame : HostFrame)
  | postCharge (frame : HostFrame)
  | settleFolio (frame : HostFrame)
  | readFolio (frame : HostFrame)
  | setCurrency (frame : HostFrame)
  | readCurrencies (frame : HostFrame)
  | setOutlet (frame : HostFrame)
  | readOutlet (frame : HostFrame)
  | releaseFolioHolds (frame : HostFrame)
  | readHold (frame : HostFrame)
  | setGangway (frame : HostFrame)
  | setPresence (frame : HostFrame)
  | setTallyWatch (frame : HostFrame)
  | setWatchGroups (frame : HostFrame)
  | readTallies (frame : HostFrame)
  | setAlarmInput (frame : HostFrame)
  | startMuster (frame : HostFrame)
  | setLockdown (frame : HostFrame)
  | stopCharging (frame : HostFrame)
  | endMuster (frame : HostFrame)
  | clearLockdown (frame : HostFrame)
  | resumeCharging (frame : HostFrame)
  | setStations (frame : HostFrame)
  | readModes (frame : HostFrame)
  | setClock (frame : HostFrame)
  | shiftLocalTime (frame : HostFrame)
  | setRolloverMinute (frame : HostFrame)
  | readClock (frame : HostFrame)
  | haltField (frame : HostFrame)
  | resumeField (frame : HostFrame)
  | addPost (frame : HostFrame)
  | removePost (frame : HostFrame)
  | readPosts (frame : HostFrame)
  | readLanes (frame : HostFrame)
  | setNotices (frame : HostFrame)
  | clearNotices (frame : HostFrame)
  | readNotices (frame : HostFrame)
  | requestFrame (lane : Fin 4) (bytes : List Byte)
  | replyFrameComplete (lane : Fin 4)
  | entry (lane : Fin 4)
  | privacy (lane : Fin 4)
  | charge (lane : Fin 4)
  | balance (lane : Fin 4)
  | authorise (lane : Fin 4)
  | complete (lane : Fin 4)
  | void (lane : Fin 4)
  | gate (lane : Fin 4)
  | muster (lane : Fin 4)
  | alarmLevelChange (input : Fin 4) (level : Level)
  | qualifiedAssertion (input : Fin 4)
  | qualifiedRelease (input : Fin 4)
  | secondArrival
  | minuteTick
  | holdLapse
  deriving DecidableEq, Repr

end Sys2Proof
end

