-- ==== Sys2Proof/Machine/State.lean ====
section
/-! DEFINITION. Everything the spec gives the JW-84 to hold, as plain data, block by block as the overview of 00_scope.md
divides the part; the reasons a step can stop; and the state after a cold start. A table of the record store
is a list of (index, record) pairs with rising indices in which a record in its empty condition is not
listed (log entry 4). -/

namespace Sys2Proof.Machine

/-- A table indexed from 0: rising indices, nothing listed for an entry in its empty condition. -/
abbrev Table (α : Type) := List (Nat × α)

/-! ### Store controller (Chapter 1) -/

/-- The part states of R1. -/
inductive PartState where
  | blank
  | setup
  | inVoyage
  deriving DecidableEq, Repr

/-- The four granted capacities of the partition (R5). -/
structure Capacities where
  cabins : Nat
  guests : Nat
  folios : Nat
  cards  : Nat
  deriving DecidableEq, Repr

/-- A deck map slot (R12); a room count of 0 marks it empty, with deck and first room 0. -/
structure DeckSlot where
  deck  : Nat
  first : Nat
  count : Nat
  deriving DecidableEq, Repr

/-- A low deck and a high deck, both inclusive (R15, R19). -/
structure DeckRange where
  low  : Nat
  high : Nat
  deriving DecidableEq, Repr

structure Store where
  part      : PartState
  /-- The SCRUBBING flag: `none` when clear, otherwise the time-base periods the scrub has run (R9). -/
  scrub     : Option Nat
  caps      : Capacities
  deckMap   : Vector DeckSlot 20
  laneDecks : Vector (Option DeckRange) 4
  deriving DecidableEq, Repr

/-! ### Card resolver (Chapter 2) -/

inductive CardClass where
  | guest
  | service
  | officer
  deriving DecidableEq, Repr

inductive CardState where
  | active
  | suspended
  deriving DecidableEq, Repr

/-- The class of a card with the fields its class has (R19). -/
inductive Holder where
  | guest (index : Nat)
  | service (decks : DeckRange)
  | officer
  deriving DecidableEq, Repr

structure Card where
  serial    : Nat
  issue     : Nat
  holder    : Holder
  state     : CardState
  validFrom : Nat
  validTo   : Option Nat
  deriving DecidableEq, Repr

/-- A card slot that is not FREE (R18); a FREE slot is not listed. -/
inductive CardSlot where
  | retired
  | inUse (card : Card)
  deriving DecidableEq, Repr

structure CardTable where
  slots        : Table CardSlot
  inUseCount   : Nat
  retiredCount : Nat
  deriving DecidableEq, Repr

/-! ### Guest roster (Chapter 3) -/

inductive AgeBand where
  | adult
  | youth
  | child
  deriving DecidableEq, Repr

inductive Presence where
  | expected
  | aboard
  | ashore
  | departed
  deriving DecidableEq, Repr

/-- An ENROLLED guest record (R37). -/
structure Guest where
  reference : Nat
  cabin     : Option Nat
  folio     : Option Nat
  band      : AgeBand
  mayCharge : Bool
  dayLimit  : Option Nat
  station   : Fin 16
  watch     : Bool
  cards     : List Nat
  presence  : Presence
  epoch     : Nat
  lastPass  : Option Nat
  spendDay  : Nat
  spent     : Nat
  held      : Nat
  deriving DecidableEq, Repr

structure Roster where
  guests   : Table Guest
  enrolled : Nat
  deriving DecidableEq, Repr

/-! ### Cabin unit (Chapter 4) -/

/-- A service window: start minute and end minute (R60). -/
structure Window where
  start : Nat
  stop  : Nat
  deriving DecidableEq, Repr

structure Cabin where
  occupants  : List Nat
  privacy    : Bool
  outOfOrder : Bool
  window     : Option Window
  deriving DecidableEq, Repr

/-- The action of an override slot, with the admitted serial of ADMIT_ONE (R62). -/
inductive OverrideAction where
  | denyAll
  | serviceOnly
  | admitOne (serial : Nat)
  deriving DecidableEq, Repr

structure Override where
  code   : CabinCode
  index  : Nat
  action : OverrideAction
  enable : Bool
  deriving DecidableEq, Repr

structure CabinUnit where
  cabins    : Table Cabin
  overrides : Vector (Option Override) 8
  deriving DecidableEq, Repr

/-! ### Folio unit (Chapter 5) -/

/-- The states of a folio that is not FREE; a FREE folio is not listed (R75). -/
inductive FolioState where
  | opened
  | frozen
  | closed
  deriving DecidableEq, Repr

structure Folio where
  number  : Nat
  state   : FolioState
  credit  : Nat
  balance : Int
  held    : Nat
  members : Nat
  holds   : List Nat
  deriving DecidableEq, Repr

structure Currency where
  enabled : Bool
  live    : Nat
  staged  : Option Nat
  deriving DecidableEq, Repr

structure Outlet where
  isOpen   : Bool
  gratuity : Nat
  staged   : Option Nat
  lifetime : Nat
  overrun  : Nat
  alcohol  : Bool
  deriving DecidableEq, Repr

structure FolioUnit where
  folios     : Table Folio
  currencies : Vector Currency 8
  /-- The 64 outlets; an outlet at its cold values is not listed (R84). -/
  outlets    : Table Outlet
  deriving DecidableEq, Repr

/-! ### Hold pool (Chapter 6) -/

/-- The record of a hold (R98). -/
structure Hold where
  folio  : Nat
  guest  : Nat
  outlet : Fin 64
  amount : Nat
  expiry : Nat
  deriving DecidableEq, Repr

inductive HoldStatus where
  | free
  | active (hold : Hold)
  | lapsed (hold : Hold)
  deriving DecidableEq, Repr

structure HoldSlot where
  status     : HoldStatus
  generation : BitVec 8
  deriving DecidableEq, Repr

structure HoldPool where
  /-- The 256 hold slots; a FREE slot of generation 0 is not listed. -/
  slots  : Table HoldSlot
  lapsed : List Nat
  deriving DecidableEq, Repr

/-! ### Tally unit (Chapters 7 and 8) -/

inductive GangwayState where
  | opened
  | inboundOnly
  | closed
  deriving DecidableEq, Repr

structure Gangway where
  state : GangwayState
  guard : Nat
  deriving DecidableEq, Repr

inductive WatchSource where
  | aboardTotal
  | ashoreTotal
  | expectedTotal
  | stationAboard
  | unmusteredTotal
  deriving DecidableEq, Repr

structure Watch where
  source  : WatchSource
  /-- The station of STATION_ABOARD; it has no part in the other sources. -/
  station : Fin 16
  value   : Nat
  armed   : Bool
  deriving DecidableEq, Repr

structure Tally where
  expected     : Nat
  aboard       : Nat
  ashore       : Nat
  departed     : Nat
  aboardAt     : Vector Nat 16
  unmustered   : Vector Nat 16
  epoch        : Nat
  stations     : BitVec 16
  /-- The completion state: true for COMPLETE, false for OPEN (R141). -/
  complete     : Bool
  gangways     : Vector Gangway 8
  watches      : Vector Watch 2
  groupEnable  : BitVec 16
  groupPending : BitVec 16
  deriving DecidableEq, Repr

/-! ### Mode unit (Chapter 8) -/

inductive Role where
  | none
  | muster
  | lockdown
  | chargeStop
  deriving DecidableEq, Repr

structure AlarmInput where
  enabled  : Bool
  active   : Level
  role     : Role
  /-- The qualified state: true for ASSERTED, false for RELEASED. -/
  asserted : Bool
  /-- The level on the line. -/
  line     : Level
  /-- The qualification interval: `none` when none is in progress, otherwise the periods it has run. -/
  interval : Option Nat
  /-- Set at a warm start until the first level has been qualified after it (R134). -/
  fresh    : Bool
  deriving DecidableEq, Repr

structure ModeUnit where
  inputs   : Vector AlarmInput 4
  /-- MUSTER_ACTIVE -/
  muster   : Bool
  /-- LOCKDOWN_ACTIVE -/
  lockdown : Bool
  /-- CHARGING_STOPPED -/
  charging : Bool
  deriving DecidableEq, Repr

/-! ### Ship clock (Chapter 9) -/

structure Clock where
  running      : Bool
  voyage       : Nat
  second       : Nat
  minute       : Nat
  day          : Nat
  rollover     : Nat
  lastRollover : Nat
  /-- Time-base periods counted towards the next second arrival (R148). -/
  phase        : Nat
  deriving DecidableEq, Repr

/-! ### Field lanes (Chapter 10) -/

/-- The nine request kinds (Section 12.2). -/
inductive RequestKind where
  | entry
  | privacy
  | charge
  | balance
  | authorise
  | complete
  | void
  | gate
  | muster
  deriving DecidableEq, Repr

structure Request where
  terminal : BitVec 10
  sequence : Byte
  kind     : RequestKind
  payload  : List Byte
  deriving DecidableEq, Repr

/-- The reason codes of the field replies (Section 12.2). -/
inductive Reason where
  | admitted | noted | ignored | approved | allowance | voided | passed | mustered | musteredElsewhere
  | busy | unavailable | badCabin | wrongLane
  | unknownCard | staleIssue | cardSuspended | cardNotValid
  | denyMode | denyOverride | denyOutOfOrder | notOccupant | denyDeparted | denyClass | denyPrivacy | denyWindow
  | denyPost | denyOutletClosed | denyChargePrivilege | noFolio | denyFolio | badAmount | denyAge
  | denyDayLimit | denyCredit
  | folioHoldLimit | poolFull | unknownHold | holdLapsed | overHold
  | repeated | denyPassback | denyClosed | alreadyMustered
  deriving DecidableEq, Repr

structure Reply where
  terminal : BitVec 10
  sequence : Byte
  kind     : RequestKind
  reason   : Reason
  data     : List Byte
  deriving DecidableEq, Repr

inductive Transmitter where
  | idle
  | sending (reply : Reply)
  deriving DecidableEq, Repr

structure Lane where
  /-- The bytes of the frame being received, its start byte first; empty while the receiver hunts (R156). -/
  receiver    : List Byte
  queue       : List Request
  transmitter : Transmitter
  busy        : List Reply
  /-- The MODEL's own view of FLnTX: the bytes of the last reply frame sent whole (log entry 6). -/
  sent        : List Byte
  deriving DecidableEq, Repr

inductive Direction where
  | toggle
  | outbound
  | inbound
  deriving DecidableEq, Repr

inductive PostKind where
  | till (outlet : Fin 64)
  | gate (gangway : Fin 8) (direction : Direction)
  | musterReader (station : Fin 16)
  deriving DecidableEq, Repr

structure Post where
  lane     : Fin 4
  terminal : BitVec 10
  kind     : PostKind
  deriving DecidableEq, Repr

structure FieldUnit where
  lanes   : Vector Lane 4
  /-- Field service: true for RUNNING, false for HALTED. -/
  running : Bool
  /-- The 256 post entries; an empty entry is not listed. -/
  posts   : Table Post
  deriving DecidableEq, Repr

/-! ### Command link and notice unit (Chapter 11) -/

/-- The result codes of the command responses (Section 12.3). -/
inductive Result where
  | done | unknownCommand | badFrame | wrongState | locked | range | notFound | duplicate | crowded | capacity
  | limit | notEmpty | aboard | holdsPending | balance | unsettled | folioState | mode | lineActive | badCabin
  deriving DecidableEq, Repr

structure Response where
  code   : Byte
  tag    : Byte
  result : Result
  data   : List Byte
  deriving DecidableEq, Repr

/-- The command slot (R168). In SCRUBBING it holds the withheld response of the command that started the
scrub, or nothing when a warm start restarted the scrub. -/
inductive CommandSlot where
  | empty
  | scrubbing (response : Option Response)
  | ready (response : Response)
  deriving DecidableEq, Repr

structure Link where
  slot : CommandSlot
  /-- The bytes the part drove on SDO in the last whole transaction: the answer bytes of a STATUS or
  FETCH, filler for any other frame (R166; log entry 7). -/
  sdo  : List Byte
  deriving DecidableEq, Repr

/-- The thirteen notices (R171). -/
inductive Notice where
  | commandDone
  | linkOverrun
  | laneFault
  | holdLapsed
  | dayRolled
  | presenceCorrected
  | watchPass
  | tallyWatch0
  | tallyWatch1
  | musterComplete
  | musterReopened
  | alarmLine
  | clockStopped
  deriving DecidableEq, Repr

inductive Routing where
  | single
  | split
  deriving DecidableEq, Repr

inductive Polarity where
  | activeHigh
  | activeLow
  deriving DecidableEq, Repr

structure NoticeUnit where
  flags     : BitVec 13
  enables   : BitVec 13
  /-- The lane bits of LANE_FAULT. -/
  laneBits  : BitVec 4
  /-- The input bits of ALARM_LINE. -/
  inputBits : BitVec 4
  routing   : Routing
  polarity0 : Polarity
  polarity1 : Polarity
  deriving DecidableEq, Repr

/-! ### The whole part -/

structure State where
  store   : Store
  cards   : CardTable
  roster  : Roster
  cabin   : CabinUnit
  folio   : FolioUnit
  hold    : HoldPool
  tally   : Tally
  mode    : ModeUnit
  clock   : Clock
  field   : FieldUnit
  link    : Link
  notice  : NoticeUnit
  /-- The MODEL's own counter of free values drawn (log entries 2 and 3). -/
  draws   : Nat
  /-- The commands and events that wait, first in, first out (log entry 1). -/
  pending : List Instr
  deriving DecidableEq, Repr

/-- No command of this model ends in a fault: the spec gives every command and event an effect. The one
constructor is raised by no meaning (safe). -/
inductive Fault where
  | unreached
  deriving DecidableEq, Repr

/-- A command without a meaning. `notModelled` is raised only by an arm of `exec` whose command has no
meaning yet; there is none (safe: a run stops). -/
inductive Refusal where
  | notModelled (mnemonic : String)
  deriving DecidableEq, Repr

/-! ### Reset values: the cold start -/

def DeckSlot.empty : DeckSlot := ⟨0, 0, 0⟩

/-- The empty condition of a cabin record (R55). -/
def Cabin.empty : Cabin := ⟨[], false, false, none⟩

/-- A currency entry after a cold start (R82). -/
def Currency.cold : Currency := ⟨false, 10000, none⟩

/-- An outlet after a cold start (R84). -/
def Outlet.cold : Outlet := ⟨false, 0, none, 60, 0, false⟩

/-- A hold slot after a cold start and after a scrub (R98). -/
def HoldSlot.cold : HoldSlot := ⟨.free, 0⟩

/-- A tally watch after a cold start (R114); its station is DESIGN CHOICE 0 (log entry 8). -/
def Watch.cold : Watch := ⟨.aboardTotal, 0, 0, false⟩

/-- An alarm input after a cold start (R131), its line at the given level. -/
def AlarmInput.cold (line : Level) : AlarmInput := ⟨false, .high, .none, false, line, none, false⟩

/-- A lane after a start (R155). -/
def Lane.cold : Lane := ⟨[], [], .idle, [], []⟩

/-- The notice unit after either start (R174). -/
def NoticeUnit.cold : NoticeUnit := ⟨0, 0, 0, 0, .single, .activeHigh, .activeHigh⟩

/-- The part right after a cold start (R16 and the cold start columns of every chapter). The level on the
alarm lines and the model's own fields are DESIGN CHOICES (log entries 6, 7 and 9). -/
def State.reset : State where
  store :=
    { part := .blank, scrub := none, caps := ⟨0, 0, 0, 0⟩
      deckMap := Vector.replicate 20 DeckSlot.empty, laneDecks := Vector.replicate 4 none }
  cards := { slots := [], inUseCount := 0, retiredCount := 0 }
  roster := { guests := [], enrolled := 0 }
  cabin := { cabins := [], overrides := Vector.replicate 8 none }
  folio :=
    { folios := []
      currencies := #v[⟨true, 10000, none⟩, .cold, .cold, .cold, .cold, .cold, .cold, .cold]
      outlets := [] }
  hold := { slots := [], lapsed := [] }
  tally :=
    { expected := 0, aboard := 0, ashore := 0, departed := 0
      aboardAt := Vector.replicate 16 0, unmustered := Vector.replicate 16 0
      epoch := 0, stations := 0, complete := false
      gangways := Vector.replicate 8 ⟨.closed, 10⟩
      watches := Vector.replicate 2 Watch.cold, groupEnable := 0, groupPending := 0 }
  mode :=
    { inputs := Vector.replicate 4 (AlarmInput.cold .low), muster := false, lockdown := false, charging := false }
  clock :=
    { running := false, voyage := 0, second := 0, minute := 0, day := 0, rollover := 240, lastRollover := 0
      phase := 0 }
  field := { lanes := Vector.replicate 4 Lane.cold, running := false, posts := [] }
  link := { slot := .empty, sdo := [] }
  notice := NoticeUnit.cold
  draws := 0
  pending := []

end Sys2Proof.Machine
end

