-- ==== Sys2Proof/Machine/Operands.lean ====
section
/-! DEFINITION. The field encodings of Chapter 12 in both directions: numbers, enumerations, optional and changeable fields,
selectors and cabin codes (R175); the reason, result, kind and notice codes; and for every command that has
a payload its fields, in the order its section lists them, with their places in the payload. -/

namespace Sys2Proof.Machine

/-! ### Numbers of a payload, most significant byte first -/

/-- The byte at place `k` of a payload. A payload reaches this only at its fixed length (R167), so the place
exists. -/
def byteAt (p : List Byte) (k : Nat) : Byte := p.getD k 0

def u8 (p : List Byte) (k : Nat) : Nat := (byteAt p k).toNat

def u16 (p : List Byte) (k : Nat) : Nat := u8 p k * 256 + u8 p (k + 1)

def u32 (p : List Byte) (k : Nat) : Nat := u16 p k * 65536 + u16 p (k + 2)

/-- Signed minutes: two's complement in two bytes. -/
def s16 (p : List Byte) (k : Nat) : Int :=
  if u16 p k < 32768 then u16 p k else (u16 p k : Int) - 65536

/-- The word of sixteen enables; also the carrier of a notice mask. -/
def word16 (p : List Byte) (k : Nat) : BitVec 16 := byteAt p k ++ byteAt p (k + 1)

/-- A notice mask; bits 13 to 15 are ignored (R175). -/
def mask13 (p : List Byte) (k : Nat) : BitVec 13 := (word16 p k).setWidth 13

/-- A cabin code in three bytes; the filler nibble is ignored (R175). -/
def cabinCodeAt (p : List Byte) (k : Nat) : CabinCode :=
  (byteAt p k ++ byteAt p (k + 1) ++ byteAt p (k + 2)).setWidth 20

/-- An enumeration byte: the value at that position of its list; above the last position an unknown value. -/
def enumAt {α : Type} (values : List α) (p : List Byte) (k : Nat) : Option α := values[u8 p k]?

/-- An optional or changeable field as received (R175). -/
inductive Setting (α : Type) where
  | absent
  | given (value : α)
  | unchanged
  | unknown
  deriving DecidableEq, Repr

/-- A marker byte followed by a field of its own width. -/
def settingAt {α : Type} (p : List Byte) (k : Nat) (value : α) : Setting α :=
  match u8 p k with
  | 0 => .absent
  | 1 => .given value
  | 2 => .unchanged
  | _ => .unknown

/-- A marker byte followed by an enumeration byte. -/
def settingEnumAt {α : Type} (values : List α) (p : List Byte) (k : Nat) : Setting α :=
  match settingAt p k (enumAt values p (k + 1)) with
  | .absent => .absent
  | .given (some v) => .given v
  | .given none => .unknown
  | .unchanged => .unchanged
  | .unknown => .unknown

/-- An optional field, where absence is offered and "unchanged" is not (R175). -/
def Setting.optional {α : Type} (x : Setting α) : Option (Option α) :=
  match x with
  | .absent => some none
  | .given v => some (some v)
  | .unchanged => none
  | .unknown => none

/-- A changeable field, where "unchanged" is offered and absence is not (R175). -/
def Setting.changeable {α : Type} (x : Setting α) : Option (Option α) :=
  match x with
  | .absent => none
  | .given v => some (some v)
  | .unchanged => some none
  | .unknown => none

/-- A changeable field in which absence is a new value of its own: the outer option is `none` for an unknown
marker, the next for "unchanged", the innermost for the new value or its absence. -/
def Setting.both {α : Type} (x : Setting α) : Option (Option (Option α)) :=
  match x with
  | .absent => some (some none)
  | .given v => some (some (some v))
  | .unchanged => some none
  | .unknown => none

/-- A selector: kind byte 0 names an index or a slot number, kind byte 1 the other key (Section 12.1). -/
inductive Selector where
  | index (n : Nat)
  | key (n : Nat)
  | unknown
  deriving DecidableEq, Repr

def selectorAt (p : List Byte) (k : Nat) : Selector :=
  match u8 p k with
  | 0 => .index (u32 p (k + 1))
  | 1 => .key (u32 p (k + 1))
  | _ => .unknown

/-! ### Numbers as sent -/

def e8 (n : Nat) : List Byte := [BitVec.ofNat 8 n]

def e16 (n : Nat) : List Byte := [BitVec.ofNat 8 (n / 256), BitVec.ofNat 8 n]

def e32 (n : Nat) : List Byte := e16 (n / 65536) ++ e16 (n % 65536)

/-- A signed amount in two's complement. -/
def eInt (i : Int) : List Byte := e32 (i % 4294967296).toNat

def eWord (w : BitVec 16) : List Byte := e16 w.toNat

/-- A notice mask as sent. Section 12.1 gives bits 0 to 12, and R175 speaks only of a mask received; that bits 13 to 15
are sent as 0 is the model's choice (log entry 42). -/
def eMask (w : BitVec 13) : List Byte := e16 w.toNat

/-- A cabin code; the filler nibble is sent as 0 (R175). -/
def eCode (c : CabinCode) : List Byte := e8 (c.toNat / 65536) ++ e16 (c.toNat % 65536)

/-- An enumeration: the value's position in its list. -/
def eEnum {α : Type} [DecidableEq α] (values : List α) (v : α) : List Byte := e8 (values.idxOf v)

/-- A fact or a flag for which no section lists two names: 1 when it holds (log entry 10). -/
def eMark (b : Bool) : List Byte := e8 (if b then 1 else 0)

/-- A flag listed "Set or clear", a setting listed "Yes or no", an enable listed "Enabled or disabled": the
position in that list (log entry 10). -/
def eFirst (b : Bool) : List Byte := e8 (if b then 0 else 1)

/-- The value bytes that follow the marker of an absent field: `width` free values (log entry 2). -/
def absentBytes (draws width : Nat) : List Byte := (List.range width).map (Config.absentByte draws)

/-- An optional field as sent: marker and value; `width` is the width of the value. -/
def eOpt {α : Type} (draws width : Nat) (value : α → List Byte) (x : Option α) : List Byte :=
  match x with
  | some a => e8 1 ++ value a
  | none => e8 0 ++ absentBytes draws width

/-- The deck range of a lane in READ_STORE and READ_LANES (R3, R164). The mark that the range is empty has no bytes in
the spec; the model sends the range as an optional field, so that mark is a marker of 0 before the four value bytes
of an absent field (log entry 36). -/
def eLaneRange (draws : Nat) (x : Option DeckRange) : List Byte := eOpt draws 4 (fun r => e16 r.low ++ e16 r.high) x

/-- The continuation of FIND_GUESTS and READ_POSTS, a number or the end (R53, R164). The end has no bytes in the spec;
the model sends the continuation as an optional field that is absent at the end (log entry 37). -/
def eContinuation (draws : Nat) (x : Option Nat) : List Byte := eOpt draws 2 e16 x

/-- A list as sent: a count of two bytes and that many entries (R175). -/
def eList {α : Type} (entry : α → List Byte) (l : List α) : List Byte := e16 l.length ++ l.flatMap entry

/-! ### The lists of the enumerations, each in the order its section first names it -/

def partStates : List PartState := [.blank, .setup, .inVoyage]
def cardClasses : List CardClass := [.guest, .service, .officer]
def cardStates : List CardState := [.active, .suspended]
def ageBands : List AgeBand := [.adult, .youth, .child]
def presences : List Presence := [.expected, .aboard, .ashore, .departed]
/-- "Set or clear" -/
def setOrClear : List Bool := [true, false]
/-- "Enabled or disabled" -/
def enabledOrDisabled : List Bool := [true, false]
/-- The may-charge setting of ENROL_GUEST: YES, NO or DEFAULT; `none` is DEFAULT. -/
def mayChargeSettings : List (Option Bool) := [some true, some false, none]
/-- "YES or NO" -/
def yesOrNo : List Bool := [true, false]
/-- The out-of-order setting of SET_CABIN: UNCHANGED, SET or CLEAR. -/
def outOfOrderSettings : List (Option Bool) := [none, some true, some false]
/-- The privacy setting of SET_CABIN: UNCHANGED or CLEAR. -/
def privacySettings : List (Option Bool) := [none, some false]

/-- The three actions of an override slot, before the admitted serial is joined to ADMIT_ONE. -/
inductive OverrideKind where
  | denyAll
  | serviceOnly
  | admitOne
  deriving DecidableEq, Repr

def overrideKinds : List OverrideKind := [.denyAll, .serviceOnly, .admitOne]

/-- The state action of AMEND_FOLIO. -/
inductive FolioAction where
  | none
  | freeze
  | thaw
  deriving DecidableEq, Repr

def folioActions : List FolioAction := [.none, .freeze, .thaw]

/-- The folio states as sent; `none` is FREE. -/
def folioStates : List (Option FolioState) := [none, some .opened, some .frozen, some .closed]

/-- The enable setting of SET_CURRENCY: UNCHANGED, ENABLE or DISABLE. -/
def enableSettings : List (Option Bool) := [none, some true, some false]

/-- IMMEDIATE or AT_ROLLOVER. -/
inductive Timing where
  | immediate
  | atRollover
  deriving DecidableEq, Repr

def timings : List Timing := [.immediate, .atRollover]

/-- The open flag of an outlet: OPEN or CLOSED. -/
def openOrClosed : List Bool := [true, false]

/-- The state setting of SET_GANGWAY: UNCHANGED, OPEN, INBOUND_ONLY or CLOSED. -/
def gangwaySettings : List (Option GangwayState) := [none, some .opened, some .inboundOnly, some .closed]

def gangwayStates : List GangwayState := [.opened, .inboundOnly, .closed]

/-- ARM or DISARM; true is ARM. -/
def watchActions : List Bool := [true, false]

def watchSources : List WatchSource := [.aboardTotal, .ashoreTotal, .expectedTotal, .stationAboard, .unmusteredTotal]

def levels : List Level := [.high, .low]

def roles : List Role := [.none, .muster, .lockdown, .chargeStop]

/-- The kinds of a post, before its fields are joined to it. -/
inductive PostClass where
  | till
  | gate
  | musterReader
  deriving DecidableEq, Repr

def postClasses : List PostClass := [.till, .gate, .musterReader]

def directions : List Direction := [.toggle, .outbound, .inbound]

def routings : List Routing := [.single, .split]

def polarities : List Polarity := [.activeHigh, .activeLow]

/-! ### Codes given as numbers (Sections 12.2 and 12.3) -/

/-- The kind codes of the lane frames. -/
def kindCode (k : RequestKind) : Byte :=
  match k with
  | .entry => 0x01
  | .privacy => 0x02
  | .charge => 0x03
  | .balance => 0x04
  | .authorise => 0x05
  | .complete => 0x06
  | .void => 0x07
  | .gate => 0x08
  | .muster => 0x09

def requestKinds : List RequestKind :=
  [.entry, .privacy, .charge, .balance, .authorise, .complete, .void, .gate, .muster]

def kindOfCode (b : Byte) : Option RequestKind := requestKinds.find? (fun k => kindCode k == b)

/-- The fixed payload length of each request kind. -/
def kindLength (k : RequestKind) : Nat :=
  match k with
  | .entry => 8
  | .privacy => 4
  | .charge => 11
  | .balance => 5
  | .authorise => 11
  | .complete => 7
  | .void => 2
  | .gate => 5
  | .muster => 5

/-- The greatest payload length of any kind (Section 12.2). -/
def greatestPayload : Nat := 11

def reasonCode (r : Reason) : Byte :=
  match r with
  | .admitted => 0x00
  | .noted => 0x01
  | .ignored => 0x02
  | .approved => 0x03
  | .allowance => 0x04
  | .voided => 0x05
  | .passed => 0x06
  | .mustered => 0x07
  | .musteredElsewhere => 0x08
  | .busy => 0x10
  | .unavailable => 0x11
  | .badCabin => 0x12
  | .wrongLane => 0x13
  | .unknownCard => 0x20
  | .staleIssue => 0x21
  | .cardSuspended => 0x22
  | .cardNotValid => 0x23
  | .denyMode => 0x30
  | .denyOverride => 0x31
  | .denyOutOfOrder => 0x32
  | .notOccupant => 0x33
  | .denyDeparted => 0x34
  | .denyClass => 0x35
  | .denyPrivacy => 0x36
  | .denyWindow => 0x37
  | .denyPost => 0x40
  | .denyOutletClosed => 0x41
  | .denyChargePrivilege => 0x42
  | .noFolio => 0x43
  | .denyFolio => 0x44
  | .badAmount => 0x45
  | .denyAge => 0x46
  | .denyDayLimit => 0x47
  | .denyCredit => 0x48
  | .folioHoldLimit => 0x50
  | .poolFull => 0x51
  | .unknownHold => 0x52
  | .holdLapsed => 0x53
  | .overHold => 0x54
  | .repeated => 0x60
  | .denyPassback => 0x61
  | .denyClosed => 0x62
  | .alreadyMustered => 0x63

/-- The result codes. Section 12.3 gives DUPLICATE no number: its code is a free value (log entry 11). -/
def resultCode (r : Result) : Byte :=
  match r with
  | .done => 0x00
  | .unknownCommand => 0x01
  | .badFrame => 0x02
  | .wrongState => 0x03
  | .locked => 0x04
  | .range => 0x05
  | .notFound => 0x06
  | .duplicate => Config.duplicateCode
  | .crowded => 0x07
  | .capacity => 0x08
  | .limit => 0x09
  | .notEmpty => 0x0A
  | .aboard => 0x0B
  | .holdsPending => 0x0C
  | .balance => 0x0D
  | .unsettled => 0x0E
  | .folioState => 0x0F
  | .mode => 0x10
  | .lineActive => 0x11
  | .badCabin => 0x12

end Sys2Proof.Machine
end

