-- ==== Sys2Proof/Machine/Payloads.lean ====
section
/-! DEFINITION. The payload of each command that has one, and of each request kind: its fields as read from the bytes, in
the order its section lists them (R175). A field is `none` where its byte is an unknown value. Deck, room,
index, day and minute fields are two bytes, per-mille values and small numbers one, as Section 12.1 gives. -/

namespace Sys2Proof.Machine

/-! ### Store controller -/

/-- CONFIGURE_STORE (R4): the four requested capacities. -/
def readConfigureStore (p : List Byte) : Capacities := ⟨u16 p 0, u16 p 2, u16 p 4, u16 p 6⟩

/-- SET_DECK (R13). -/
structure SetDeckFields where
  slot : Nat
  deck : Nat
  first : Nat
  count : Nat
  deriving DecidableEq, Repr

def readSetDeck (p : List Byte) : SetDeckFields := ⟨u8 p 0, u16 p 1, u16 p 3, u16 p 5⟩

/-- SET_LANE_DECKS (R15). -/
structure SetLaneDecksFields where
  lane : Nat
  low : Nat
  high : Nat
  deriving DecidableEq, Repr

def readSetLaneDecks (p : List Byte) : SetLaneDecksFields := ⟨u16 p 0, u16 p 2, u16 p 4⟩

/-! ### Card resolver -/

/-- ISSUE_CARD (R25). -/
structure IssueCardFields where
  serial : Nat
  issue : Nat
  cls : Option CardClass
  guest : Nat
  low : Nat
  high : Nat
  validFrom : Nat
  validTo : Setting Nat
  deriving DecidableEq, Repr

def readIssueCard (p : List Byte) : IssueCardFields :=
  { serial := u32 p 0, issue := u8 p 4, cls := enumAt cardClasses p 5, guest := u16 p 6, low := u16 p 8
    high := u16 p 10, validFrom := u16 p 12, validTo := settingAt p 14 (u16 p 15) }

/-! ### Guest roster -/

/-- ENROL_GUEST (R41). -/
structure EnrolGuestFields where
  reference : Nat
  cabin : Setting CabinCode
  folio : Setting Nat
  band : Option AgeBand
  mayCharge : Option (Option Bool)
  dayLimit : Setting Nat
  station : Nat
  watch : Option Bool
  deriving DecidableEq, Repr

def readEnrolGuest (p : List Byte) : EnrolGuestFields :=
  { reference := u32 p 0, cabin := settingAt p 4 (cabinCodeAt p 5), folio := settingAt p 8 (u16 p 9)
    band := enumAt ageBands p 11, mayCharge := enumAt mayChargeSettings p 12
    dayLimit := settingAt p 13 (u32 p 14), station := u16 p 18, watch := enumAt setOrClear p 20 }

/-- AMEND_GUEST (R43). -/
structure AmendGuestFields where
  guest : Nat
  reference : Setting Nat
  cabin : Setting CabinCode
  folio : Setting Nat
  band : Setting AgeBand
  mayCharge : Setting Bool
  dayLimit : Setting Nat
  station : Setting Nat
  watch : Setting Bool
  deriving DecidableEq, Repr

def readAmendGuest (p : List Byte) : AmendGuestFields :=
  { guest := u16 p 0, reference := settingAt p 2 (u32 p 3), cabin := settingAt p 7 (cabinCodeAt p 8)
    folio := settingAt p 11 (u16 p 12), band := settingEnumAt ageBands p 14
    mayCharge := settingEnumAt yesOrNo p 16, dayLimit := settingAt p 18 (u32 p 19)
    station := settingAt p 23 (u16 p 24), watch := settingEnumAt setOrClear p 26 }

/-- FIND_GUESTS (R53). -/
structure FindGuestsFields where
  start : Nat
  presence : Setting Presence
  station : Setting Nat
  cabin : Setting CabinCode
  folio : Setting Nat
  deriving DecidableEq, Repr

def readFindGuests (p : List Byte) : FindGuestsFields :=
  { start := u16 p 0, presence := settingEnumAt presences p 2, station := settingAt p 4 (u16 p 5)
    cabin := settingAt p 7 (cabinCodeAt p 8), folio := settingAt p 11 (u16 p 12) }

/-! ### Cabin unit -/

/-- SET_CABIN (R61). The window setting uses the marker bytes of Section 12.1. -/
structure SetCabinFields where
  code : CabinCode
  outOfOrder : Option (Option Bool)
  privacy : Option (Option Bool)
  window : Setting Window
  deriving DecidableEq, Repr

def readSetCabin (p : List Byte) : SetCabinFields :=
  { code := cabinCodeAt p 0, outOfOrder := enumAt outOfOrderSettings p 3, privacy := enumAt privacySettings p 4
    window := settingAt p 5 ⟨u16 p 6, u16 p 8⟩ }

/-- SET_OVERRIDE (R63). -/
structure SetOverrideFields where
  slot : Nat
  code : CabinCode
  kind : Option OverrideKind
  serial : Nat
  enable : Option Bool
  deriving DecidableEq, Repr

def readSetOverride (p : List Byte) : SetOverrideFields :=
  { slot := u8 p 0, code := cabinCodeAt p 1, kind := enumAt overrideKinds p 4, serial := u32 p 5
    enable := enumAt setOrClear p 9 }

/-! ### Folio unit -/

/-- AMEND_FOLIO (R78). -/
structure AmendFolioFields where
  folio : Nat
  credit : Setting Nat
  action : Option FolioAction
  deriving DecidableEq, Repr

def readAmendFolio (p : List Byte) : AmendFolioFields :=
  { folio := u16 p 0, credit := settingAt p 2 (u32 p 3), action := enumAt folioActions p 7 }

/-- SET_CURRENCY (R83). The entry number is a currency index, one byte (log entry 12). -/
structure SetCurrencyFields where
  entry : Nat
  enable : Option (Option Bool)
  rate : Setting Nat
  timing : Option Timing
  deriving DecidableEq, Repr

def readSetCurrency (p : List Byte) : SetCurrencyFields :=
  { entry := u8 p 0, enable := enumAt enableSettings p 1, rate := settingAt p 2 (u32 p 3)
    timing := enumAt timings p 7 }

/-- SET_OUTLET (R85). -/
structure SetOutletFields where
  outlet : Nat
  isOpen : Setting Bool
  gratuity : Setting Nat
  lifetime : Setting Nat
  overrun : Setting Nat
  alcohol : Setting Bool
  timing : Option Timing
  deriving DecidableEq, Repr

def readSetOutlet (p : List Byte) : SetOutletFields :=
  { outlet := u16 p 0, isOpen := settingEnumAt openOrClosed p 2, gratuity := settingAt p 4 (u8 p 5)
    lifetime := settingAt p 6 (u16 p 7), overrun := settingAt p 9 (u8 p 10)
    alcohol := settingEnumAt yesOrNo p 11, timing := enumAt timings p 13 }

/-! ### Tally unit -/

/-- SET_GANGWAY (R118). -/
structure SetGangwayFields where
  gangway : Nat
  state : Option (Option GangwayState)
  guard : Setting Nat
  deriving DecidableEq, Repr

def readSetGangway (p : List Byte) : SetGangwayFields :=
  { gangway := u16 p 0, state := enumAt gangwaySettings p 2, guard := settingAt p 3 (u16 p 4) }

/-- SET_TALLY_WATCH (R127); `arm` is true for ARM. -/
structure SetTallyWatchFields where
  watch : Nat
  arm : Option Bool
  source : Option WatchSource
  station : Nat
  value : Nat
  deriving DecidableEq, Repr

def readSetTallyWatch (p : List Byte) : SetTallyWatchFields :=
  { watch := u8 p 0, arm := enumAt watchActions p 1, source := enumAt watchSources p 2, station := u16 p 3
    value := u16 p 5 }

/-! ### Mode unit -/

/-- SET_ALARM_INPUT (R131). -/
structure SetAlarmInputFields where
  input : Nat
  enabled : Option Bool
  active : Option Level
  role : Option Role
  deriving DecidableEq, Repr

def readSetAlarmInput (p : List Byte) : SetAlarmInputFields :=
  { input := u8 p 0, enabled := enumAt enabledOrDisabled p 1, active := enumAt levels p 2
    role := enumAt roles p 3 }

/-! ### Field lanes -/

/-- ADD_POST (R162). The fields of every kind stand in the payload, since its length is fixed. -/
structure AddPostFields where
  lane : Nat
  address : Nat
  kind : Option PostClass
  outlet : Nat
  gangway : Nat
  direction : Option Direction
  station : Nat
  deriving DecidableEq, Repr

def readAddPost (p : List Byte) : AddPostFields :=
  { lane := u16 p 0, address := u16 p 2, kind := enumAt postClasses p 4, outlet := u16 p 5, gangway := u16 p 7
    direction := enumAt directions p 9, station := u16 p 10 }

/-! ### Notice unit -/

/-- SET_NOTICES (R173). -/
structure SetNoticesFields where
  enables : BitVec 13
  routing : Option Routing
  polarity0 : Option Polarity
  polarity1 : Option Polarity
  deriving DecidableEq, Repr

def readSetNotices (p : List Byte) : SetNoticesFields :=
  { enables := mask13 p 0, routing := enumAt routings p 2, polarity0 := enumAt polarities p 3
    polarity1 := enumAt polarities p 4 }

/-! ### Requests (Section 12.2) -/

/-- A card presentation: serial and issue. -/
structure Presentation where
  serial : Nat
  issue : Nat
  deriving DecidableEq, Repr

def presentationAt (p : List Byte) (k : Nat) : Presentation := ⟨u32 p k, u8 p (k + 4)⟩

/-- CHARGE and AUTHORISE: a category other than 0 (GENERAL) is taken as ALCOHOL (R93, R175). -/
structure ChargeFields where
  card : Presentation
  amount : Nat
  currency : Nat
  alcohol : Bool
  deriving DecidableEq, Repr

def readCharge (p : List Byte) : ChargeFields :=
  { card := presentationAt p 0, amount := u32 p 5, currency := u8 p 9, alcohol := u8 p 10 ≠ 0 }

/-- A hold tag: slot and generation. -/
structure Tag where
  slot : Nat
  generation : BitVec 8
  deriving DecidableEq, Repr

def tagAt (p : List Byte) (k : Nat) : Tag := ⟨u8 p k, byteAt p (k + 1)⟩

/-- COMPLETE. -/
structure CompleteFields where
  tag : Tag
  amount : Nat
  currency : Nat
  deriving DecidableEq, Repr

def readComplete (p : List Byte) : CompleteFields := ⟨tagAt p 0, u32 p 2, u8 p 6⟩

/-- ENTRY. -/
structure EntryFields where
  code : CabinCode
  card : Presentation
  deriving DecidableEq, Repr

def readEntry (p : List Byte) : EntryFields := ⟨cabinCodeAt p 0, presentationAt p 3⟩

/-- PRIVACY: the lane has made sure that the latch state is 0 (CLEAR) or 1 (SET) (R156). -/
structure PrivacyFields where
  code : CabinCode
  latch : Bool
  deriving DecidableEq, Repr

def readPrivacy (p : List Byte) : PrivacyFields := ⟨cabinCodeAt p 0, u8 p 3 = 1⟩

end Sys2Proof.Machine
end

