-- ==== Sys2Proof/Machine/Flags.lean ====
section
/-! DEFINITION. The notice flags and the attention lines (R171 to R173): raising a notice, with its detail bit where it has one,
and the levels that ATN0 and ATN1 take from the flags, the enables, the routing and the polarities. -/

namespace Sys2Proof.Machine

/-- The thirteen notices in the order of the table of R171. -/
def notices : List Notice :=
  [.commandDone, .linkOverrun, .laneFault, .holdLapsed, .dayRolled, .presenceCorrected, .watchPass, .tallyWatch0,
    .tallyWatch1, .musterComplete, .musterReopened, .alarmLine, .clockStopped]

/-- The bit of a notice in a notice mask (Section 12.1). -/
def noticeBit (n : Notice) : Nat := notices.idxOf n

/-- The mask of the urgent notices (R171). -/
def urgentMask : BitVec 13 := 0b1111110000000

/-- The mask of the routine notices (R171). -/
def routineMask : BitVec 13 := 0b0000001111111

/-- Bit `k` of a word. -/
def bitOf (w k : Nat) : BitVec w := BitVec.twoPow w k

/-- The flag of a notice. -/
def NoticeUnit.flag (u : NoticeUnit) (n : Notice) : Bool := u.flags.getLsbD (noticeBit n)

def NoticeUnit.raise (u : NoticeUnit) (n : Notice) : NoticeUnit :=
  { u with flags := u.flags ||| bitOf 13 (noticeBit n) }

/-- A notice without detail is raised: its flag is set whatever its enable (R171). -/
def State.raise (s : State) (n : Notice) : State := { s with notice := s.notice.raise n }

/-- LANE_FAULT with the bit of a lane (R156). -/
def State.raiseLaneFault (s : State) (lane : Fin 4) : State :=
  { s with notice := { s.notice.raise .laneFault with laneBits := s.notice.laneBits ||| bitOf 4 lane.val } }

/-- ALARM_LINE with the bit of an input (R133). -/
def State.raiseAlarmLine (s : State) (input : Fin 4) : State :=
  { s with notice := { s.notice.raise .alarmLine with inputBits := s.notice.inputBits ||| bitOf 4 input.val } }

/-- CLEAR_NOTICES in the notice unit (R172): the flags named, and the detail bits of LANE_FAULT and ALARM_LINE
with theirs. -/
def NoticeUnit.clear (u : NoticeUnit) (mask : BitVec 13) : NoticeUnit :=
  { u with
    flags := u.flags &&& ~~~mask
    laneBits := if mask.getLsbD (noticeBit .laneFault) then 0 else u.laneBits
    inputBits := if mask.getLsbD (noticeBit .alarmLine) then 0 else u.inputBits }

/-- Whether ATN0 is active (R173). -/
def NoticeUnit.active0 (u : NoticeUnit) : Bool :=
  match u.routing with
  | .single => u.flags &&& u.enables != 0
  | .split => u.flags &&& u.enables &&& routineMask != 0

/-- Whether ATN1 is active (R173). -/
def NoticeUnit.active1 (u : NoticeUnit) : Bool :=
  match u.routing with
  | .single => false
  | .split => u.flags &&& u.enables &&& urgentMask != 0

/-- The level of a line under its polarity: true for high (R173). -/
def lineLevel (p : Polarity) (active : Bool) : Bool :=
  match p with
  | .activeHigh => active
  | .activeLow => !active

/-- The level of ATN0, true for high. The lines take their levels at the event that changes anything they
follow, so they are read off the notice unit and not stored again (R173). -/
def NoticeUnit.atn0 (u : NoticeUnit) : Bool := lineLevel u.polarity0 u.active0

/-- The level of ATN1, true for high (R173). -/
def NoticeUnit.atn1 (u : NoticeUnit) : Bool := lineLevel u.polarity1 u.active1

end Sys2Proof.Machine
end

