-- ==== Sys2Proof/Machine/Ops.lean ====
section
/-! DEFINITION. The named operations that the meanings share, each written once from the rule its docstring cites: tables,
the command slot, the lanes, cabin codes, card lookup and resolution, the movements of presence, musters,
the charge computation, holds, the rollover and the scrub. -/

namespace Sys2Proof.Machine

/-! ### Tables and vectors -/

/-- The record at an index, if one is listed. -/
def Table.find {α : Type} (t : Table α) (k : Nat) : Option α :=
  match t with
  | [] => none
  | (i, a) :: rest => if i = k then some a else Table.find rest k

/-- Lists a record at an index, in place of the one listed there. -/
def Table.put {α : Type} (t : Table α) (k : Nat) (a : α) : Table α :=
  match t with
  | [] => [(k, a)]
  | (i, b) :: rest =>
    if k < i then (k, a) :: (i, b) :: rest
    else if k = i then (k, a) :: rest
    else (i, b) :: Table.put rest k a

/-- Takes an index off the list. -/
def Table.erase {α : Type} (t : Table α) (k : Nat) : Table α :=
  match t with
  | [] => []
  | (i, a) :: rest => if i = k then rest else (i, a) :: Table.erase rest k

/-- The lowest index, from `k` up, that a table does not list. -/
def Table.lowestFree {α : Type} (t : Table α) (k : Nat) : Nat :=
  match t with
  | [] => k
  | (i, _) :: rest => if i = k then Table.lowestFree rest (k + 1) else k

/-- Applies a function to every listed record. -/
def Table.mapRecords {α : Type} (t : Table α) (f : α → α) : Table α := t.map (fun e => (e.1, f e.2))

/-- The record at an index of a table whose unlisted entries are in the condition `d`. -/
def Table.findD {α : Type} (t : Table α) (k : Nat) (d : α) : α := (Table.find t k).getD d

/-- Writes a record into a table whose unlisted entries are in the condition `d`. -/
def Table.putD {α : Type} [DecidableEq α] (t : Table α) (k : Nat) (a d : α) : Table α :=
  if a = d then Table.erase t k else Table.put t k a

/-- The indices of a table rise: the canonical form, in which equal tables are equal lists. -/
abbrev Table.wf {α : Type} (t : Table α) : Prop := (t.map Prod.fst).Pairwise (· < ·)

/-- The entry of a vector. -/
def cell {α : Type} {n : Nat} (v : Vector α n) (i : Fin n) : α := v[i.val]

/-- A vector with one entry replaced. -/
def putCell {α : Type} {n : Nat} (v : Vector α n) (i : Fin n) (a : α) : Vector α n := v.set i.val a

/-- The lowest place that meets a test. -/
def firstFin (n : Nat) (test : Fin n → Bool) : Option (Fin n) := (List.finRange n).find? test

/-- A number as an index of a vector, when it is one. -/
def asFin (n k : Nat) : Option (Fin n) := if h : k < n then some ⟨k, h⟩ else none

/-- The sum of a vector of counts. -/
def total {n : Nat} (v : Vector Nat n) : Nat := v.toList.sum

/-! ### The state's parts, read and replaced -/

def State.withStore (s : State) (x : Store) : State := { s with store := x }
def State.withCards (s : State) (x : CardTable) : State := { s with cards := x }
def State.withRoster (s : State) (x : Roster) : State := { s with roster := x }
def State.withCabin (s : State) (x : CabinUnit) : State := { s with cabin := x }
def State.withFolio (s : State) (x : FolioUnit) : State := { s with folio := x }
def State.withHold (s : State) (x : HoldPool) : State := { s with hold := x }
def State.withTally (s : State) (x : Tally) : State := { s with tally := x }
def State.withMode (s : State) (x : ModeUnit) : State := { s with mode := x }
def State.withClock (s : State) (x : Clock) : State := { s with clock := x }
def State.withField (s : State) (x : FieldUnit) : State := { s with field := x }
def State.withLink (s : State) (x : Link) : State := { s with link := x }
def State.withNotice (s : State) (x : NoticeUnit) : State := { s with notice := x }
def State.withPending (s : State) (x : List Instr) : State := { s with pending := x }

/-- The SCRUBBING flag. -/
def State.scrubbing (s : State) : Bool := s.store.scrub.isSome

/-- The ENROLLED guest of an index, if it names one. -/
def State.guestAt (s : State) (k : Nat) : Option Guest := Table.find s.roster.guests k

def State.putGuest (s : State) (k : Nat) (g : Guest) : State :=
  s.withRoster { s.roster with guests := Table.put s.roster.guests k g }

/-- The folio of an index that is not FREE, if it names one. -/
def State.folioAt (s : State) (k : Nat) : Option Folio := Table.find s.folio.folios k

def State.putFolio (s : State) (k : Nat) (f : Folio) : State :=
  s.withFolio { s.folio with folios := Table.put s.folio.folios k f }

/-- A folio becomes FREE. -/
def State.freeFolio (s : State) (k : Nat) : State :=
  s.withFolio { s.folio with folios := Table.erase s.folio.folios k }

/-- The guest that a host command's index names: below the granted capacity and ENROLLED (R36). -/
def State.namedGuest (s : State) (k : Nat) : Option Guest := if k < s.store.caps.guests then s.guestAt k else none

/-- The folio that a host command's index names: below the granted capacity and not FREE (R75). -/
def State.namedFolio (s : State) (k : Nat) : Option Folio := if k < s.store.caps.folios then s.folioAt k else none

/-- The record of a cabin index. -/
def State.cabinAt (s : State) (k : Nat) : Cabin := Table.findD s.cabin.cabins k Cabin.empty

def State.putCabin (s : State) (k : Nat) (c : Cabin) : State :=
  s.withCabin { s.cabin with cabins := Table.putD s.cabin.cabins k c Cabin.empty }

def State.outletAt (s : State) (k : Nat) : Outlet := Table.findD s.folio.outlets k Outlet.cold

def State.putOutlet (s : State) (k : Nat) (o : Outlet) : State :=
  s.withFolio { s.folio with outlets := Table.putD s.folio.outlets k o Outlet.cold }

def State.holdAt (s : State) (k : Nat) : HoldSlot := Table.findD s.hold.slots k HoldSlot.cold

def State.putHold (s : State) (k : Nat) (h : HoldSlot) : State :=
  s.withHold { s.hold with slots := Table.putD s.hold.slots k h HoldSlot.cold }

/-- The card slot of an index; `none` is FREE (R18). -/
def State.cardSlotAt (s : State) (k : Nat) : Option CardSlot := Table.find s.cards.slots k

def State.laneAt (s : State) (n : Fin 4) : Lane := cell s.field.lanes n

def State.putLane (s : State) (n : Fin 4) (l : Lane) : State :=
  s.withField { s.field with lanes := putCell s.field.lanes n l }

/-! ### The command slot (R166 to R168) -/

/-- The outcome of a command's own tests and effect: a refusal with the data its section names for it, or the
state after the command with the data of its response. -/
abbrev Verdict (α : Type) := Except (Result × List Byte) α

/-- A test of a command: its failure gives the result code. -/
def check (p : Prop) [Decidable p] (r : Result) : Verdict Unit := if p then .ok () else .error (r, [])

/-- A test that also finds something: its failure gives the result code. -/
def need {α : Type} (x : Option α) (r : Result) : Verdict α :=
  match x with
  | some a => .ok a
  | none => .error (r, [])

/-- The classes of R2. -/
inductive CommandClass where
  | configure
  | lock
  | finish
  | structural
  | record
  | operation
  deriving DecidableEq, Repr

/-- The part-state test of R2: the result with which a class is refused, or none when it is admitted. -/
def CommandClass.refusal (c : CommandClass) (p : PartState) : Option Result :=
  match c, p with
  | .configure, .inVoyage => some .wrongState
  | .configure, _ => none
  | .lock, .setup => none
  | .lock, _ => some .wrongState
  | .finish, .inVoyage => none
  | .finish, _ => some .wrongState
  | .structural, .blank => some .wrongState
  | .structural, .setup => none
  | .structural, .inVoyage => some .locked
  | .record, .blank => some .wrongState
  | .record, _ => none
  | .operation, _ => none

/-- A row of the command catalogue: code, fixed payload length, class (Sections 11.3, 12.3). -/
structure Command where
  code   : Byte
  length : Nat
  cls    : CommandClass
  deriving DecidableEq, Repr

/-- Test 1 of R167. -/
abbrev frameSized (f : HostFrame) : Prop := f.length.toNat ≤ 120 ∧ f.payload.length = f.length.toNat

/-- Tests 1, 3 and 4 of R167 (test 2 has been passed by a command of the catalogue). -/
def frameTests (c : Command) (f : HostFrame) (s : State) : Verdict Unit := do
  check (frameSized f) .badFrame
  check (f.length.toNat = c.length) .badFrame
  match c.cls.refusal s.store.part with
  | some r => .error (r, [])
  | none => .ok ()

/-- The bytes of a response (Section 12.3). -/
def Response.bytes (r : Response) : List Byte :=
  [r.code, r.tag, resultCode r.result] ++ e8 r.data.length ++ r.data

/-- The part drives bytes on SDO. -/
def State.drive (s : State) (bytes : List Byte) : State := s.withLink { s.link with sdo := bytes }

/-- The filler of a transaction that is no answer (R166): bytes of 0x00 (log entry 7). -/
def filler (n : Nat) : List Byte := List.replicate n 0

/-- The bytes of a whole command frame: the header and the payload (R166). -/
def frameBytes (f : HostFrame) : Nat := 3 + f.payload.length

/-- The slot moves to READY with a frame's response, SDO carried filler throughout the frame, and COMMAND_DONE is
raised (R166, R168). The data was built before that notice is raised, so data that holds notice flags does not show it
(log entry 39). -/
def State.respond (s : State) (code : Byte) (f : HostFrame) (r : Result) (data : List Byte) : State :=
  { (s.withLink ⟨.ready ⟨code, f.tag, r, data⟩, filler (frameBytes f)⟩).raise .commandDone with draws := s.draws + 1 }

/-- The slot moves to SCRUBBING; the response is withheld until the scrub completes (R168). -/
def State.withhold (s : State) (code : Byte) (f : HostFrame) (data : List Byte) : State :=
  { s.withLink ⟨.scrubbing (some ⟨code, f.tag, .done, data⟩), filler (frameBytes f)⟩ with draws := s.draws + 1 }

/-- A frame that meets an occupied slot is discarded (R168). -/
def State.discard (s : State) (f : HostFrame) : State := (s.drive (filler (frameBytes f))).raise .linkOverrun

/-- A command frame taken at the release of SEL (R167, R168): discarded with LINK_OVERRUN unless the slot is EMPTY;
otherwise checked, carried out by `body`, and answered. R136 and R160 speak of a START_MUSTER and a RESUME_FIELD during a
scrub; the model discards them there like every other command frame (log entry 43). -/
def hostCommand (c : Command) (f : HostFrame) (body : List Byte → State → Verdict (State × List Byte))
    (s : State) : State :=
  match s.link.slot with
  | .empty =>
    match frameTests c f s >>= fun _ => body f.payload s with
    | .ok (t, data) => t.respond c.code f .done data
    | .error (r, data) => s.respond c.code f r data
  | .scrubbing _ => s.discard f
  | .ready _ => s.discard f

/-- The same for CONFIGURE_STORE and END_VOYAGE, whose response is withheld on acceptance (R168). -/
def scrubCommand (c : Command) (f : HostFrame) (body : List Byte → State → Verdict (State × List Byte))
    (s : State) : State :=
  match s.link.slot with
  | .empty =>
    match frameTests c f s >>= fun _ => body f.payload s with
    | .ok (t, data) => t.withhold c.code f data
    | .error (r, data) => s.respond c.code f r data
  | .scrubbing _ => s.discard f
  | .ready _ => s.discard f

/-! ### Lanes (R155 to R159, R176) -/

/-- One bit of the CRC-16: generator x^16 + x^12 + x^5 + 1 (R176). -/
def crcBit (c : BitVec 16) : BitVec 16 := if c.msb then (c <<< 1) ^^^ 0x1021 else c <<< 1

/-- One byte of the CRC-16, most significant bit first (R176). -/
def crcByte (c : BitVec 16) (b : Byte) : BitVec 16 :=
  let x := c ^^^ (b ++ (0 : BitVec 8))
  crcBit (crcBit (crcBit (crcBit (crcBit (crcBit (crcBit (crcBit x)))))))

/-- The CRC-16 of a frame's bytes from offset 1, initial value 0xFFFF, no final XOR (R176). -/
def crc16 (bytes : List Byte) : BitVec 16 := bytes.foldl crcByte 0xFFFF

/-- A reply frame on the line: a 10-bit address with the upper bits 0, and the CRC high byte first (Section
12.2, R176). -/
def Reply.bytes (r : Reply) : List Byte :=
  let body := e16 r.terminal.toNat ++ [r.sequence, kindCode r.kind, reasonCode r.reason] ++ e8 r.data.length ++ r.data
  [0xA5] ++ body ++ eWord (crc16 body)

/-- READY is asserted while the queue holds fewer than 8 requests (R155). -/
def Lane.ready (l : Lane) : Bool := l.queue.length < 8

/-- The BUSY reply of a request, without data (R157, R176). -/
def busyReply (r : Request) : Reply := ⟨r.terminal, r.sequence, r.kind, .busy, []⟩

/-- A good frame becomes a request (R157). A busy answer that joins while the transmitter is IDLE is begun at
once (R159). -/
def State.receiveRequest (s : State) (n : Fin 4) (r : Request) : State :=
  let l := s.laneAt n
  if l.queue.length < 8 then s.putLane n { l with queue := l.queue ++ [r] }
  else if l.busy.length < 8 then
    match l.transmitter with
    | .idle => s.putLane n { l with transmitter := .sending (busyReply r) }
    | .sending _ => s.putLane n { l with busy := l.busy ++ [busyReply r] }
  else s.raiseLaneFault n

/-- Steps 2 to 5 of R156 on a frame collected to its stated length: the request of a good frame. -/
def requestOfFrame (frame : List Byte) : Option Request :=
  let length := u8 frame 5
  let payload := (frame.drop 6).take length
  if word16 frame (6 + length) = crc16 ((frame.drop 1).take (5 + length)) then
    match kindOfCode (byteAt frame 4) with
    | none => none
    | some kind =>
      if length ≠ kindLength kind then none
      else if kind = .privacy ∧ 1 < u8 payload 3 then none
      else some ⟨(word16 frame 1).setWidth 10, byteAt frame 3, kind, payload⟩
  else none

def State.setReceiver (s : State) (n : Fin 4) (bytes : List Byte) : State :=
  s.putLane n { s.laneAt n with receiver := bytes }

/-- One byte arrives on a lane (R156): while hunting, only a start byte is taken; a length above the greatest
payload ends the frame at once; a frame collected to its length becomes a request or is discarded with
LANE_FAULT. -/
def State.receiveByte (s : State) (n : Fin 4) (b : Byte) : State :=
  match (s.laneAt n).receiver with
  | [] => if b = 0xA5 then s.setReceiver n [b] else s
  | start :: more =>
    let frame := start :: more ++ [b]
    if frame.length < 6 then s.setReceiver n frame
    else if greatestPayload < u8 frame 5 then (s.setReceiver n []).raiseLaneFault n
    else if frame.length < 8 + u8 frame 5 then s.setReceiver n frame
    else
      match requestOfFrame frame with
      | some r => (s.setReceiver n []).receiveRequest n r
      | none => (s.setReceiver n []).raiseLaneFault n

/-- The outcome of a field decision's tests: a refusal, or what the decision goes on with. -/
abbrev Decision (α : Type) := Except (Reason × List Byte) α

/-- A test of a field decision: its failure gives the reply. -/
def test (p : Prop) [Decidable p] (r : Reason) : Decision Unit := if p then .ok () else .error (r, [])

/-- A test that also finds something: its failure gives the reply. -/
def demand {α : Type} (x : Option α) (r : Reason) : Decision α :=
  match x with
  | some a => .ok a
  | none => .error (r, [])

/-- What a deciding block hands back: the state it leaves, the reason and the data of the reply. -/
structure Decided where
  state  : State
  reason : Reason
  data   : List Byte

/-- A decision whose refusals change nothing. -/
def decided (s : State) (d : Decision Decided) : Decided :=
  match d with
  | .ok x => x
  | .error (r, data) => ⟨s, r, data⟩

/-- A decided request leaves the head of its lane's queue and the transmitter begins the reply (steps 1 and 4 of
R158). -/
def State.reply (s : State) (n : Fin 4) (r : Request) (rest : List Request) (reason : Reason) (data : List Byte) :
    State :=
  s.putLane n
    { s.laneAt n with
      queue := rest, transmitter := .sending ⟨r.terminal, r.sequence, r.kind, reason, data⟩ }

/-- The dispatcher of a lane takes the request at the head of its queue, when it is of kind `k`: the queue is not
empty, the transmitter is IDLE and no busy answer waits (R158). The owning block decides at the take (no
decision reads a lane's queue), and the transmitter begins the reply. Where the dispatcher has no such
request to take, there is no take (log entry 5). -/
def takeRequest (k : RequestKind) (n : Fin 4) (decide : Request → State → Decided) (s : State) : State :=
  let l := s.laneAt n
  match l.transmitter, l.busy, l.queue with
  | .idle, [], r :: rest =>
    if r.kind = k then
      let d := decide r s
      d.state.reply n r rest d.reason d.data
    else s
  | _, _, _ => s

/-- Test 1 of every field decision: field service RUNNING, the part not BLANK, SCRUBBING clear. -/
abbrev State.serving (s : State) : Prop :=
  s.field.running = true ∧ s.store.part ≠ .blank ∧ s.scrubbing = false

/-- The post of a lane and terminal address, if the post table holds one (R161). -/
def State.postAt (s : State) (lane : Fin 4) (terminal : BitVec 10) : Option (Nat × Post) :=
  s.field.posts.find? (fun e => e.2.lane == lane && e.2.terminal == terminal)

/-- The outlet of the TILL at a lane and terminal address (R161). -/
def State.tillAt (s : State) (lane : Fin 4) (terminal : BitVec 10) : Option (Fin 64) :=
  match s.postAt lane terminal with
  | some (_, ⟨_, _, .till o⟩) => some o
  | _ => none

/-- The gangway and direction of the GATE at a lane and terminal address (R161). -/
def State.gateAt (s : State) (lane : Fin 4) (terminal : BitVec 10) : Option (Fin 8 × Direction) :=
  match s.postAt lane terminal with
  | some (_, ⟨_, _, .gate g d⟩) => some (g, d)
  | _ => none

/-- The station of the MUSTER_READER at a lane and terminal address (R161). -/
def State.readerAt (s : State) (lane : Fin 4) (terminal : BitVec 10) : Option (Fin 16) :=
  match s.postAt lane terminal with
  | some (_, ⟨_, _, .musterReader x⟩) => some x
  | _ => none

/-! ### Partition, deck map and cabin codes (R5, R12, R14, R15a) -/

/-- The room counts of the deck map, in slot order. -/
def Store.counts (st : Store) : List Nat := st.deckMap.toList.map DeckSlot.count

/-- The total cabin count (R12). -/
def Store.cabinCount (st : Store) : Nat := st.counts.sum

/-- The base index of a slot: the room counts of the slots numbered below it (R12). -/
def Store.base (st : Store) (k : Nat) : Nat := (st.counts.take k).sum

/-- The store units a partition uses. -/
def Capacities.units (c : Capacities) : Nat := 2 * c.cabins + 2 * c.guests + c.folios + c.cards

/-- The grant of cabins, guests or folios (R5): `most` the table's greatest capacity, `per` the units of one
record, `left` the units the earlier grants have left. -/
def grant64 (request most per left : Nat) : Option Nat :=
  let asked := if request = 0 then 64 else request
  let rounded := (asked + 63) / 64 * 64
  let granted := min (min rounded most) (left / per / 64 * 64)
  if granted < 64 then none else some granted

/-- The next power of two from 1,024 to 16,384 that a card request rounds up to (R5). -/
def cardRequest (request : Nat) : Nat :=
  if request ≤ 1024 then 1024
  else if request ≤ 2048 then 2048
  else if request ≤ 4096 then 4096
  else if request ≤ 8192 then 8192
  else 16384

/-- The grant of cards (R5). -/
def grantCards (request left : Nat) : Option Nat :=
  [16384, 8192, 4096, 2048, 1024].find? (fun n => n ≤ cardRequest request ∧ n ≤ left)

/-- The four grants in their order (R5). -/
def grantAll (r : Capacities) : Option Capacities := do
  let cabins ← grant64 r.cabins 4096 2 Config.storeUnits
  let guests ← grant64 r.guests 8192 2 (Config.storeUnits - 2 * cabins)
  let folios ← grant64 r.folios 4096 1 (Config.storeUnits - 2 * cabins - 2 * guests)
  let cards ← grantCards r.cards (Config.storeUnits - 2 * cabins - 2 * guests - folios)
  some ⟨cabins, guests, folios, cards⟩

/-- The digit of a cabin code in nibble `k`, counted from the last room digit. -/
def codeDigit (c : CabinCode) (k : Nat) : Nat := (c >>> (4 * k)).toNat % 16

/-- The deck and room a code spells, when every digit is 0 to 9 (steps 1 to 3 of R14). -/
def codeDeckRoom (c : CabinCode) : Option (Nat × Nat) :=
  if codeDigit c 0 ≤ 9 ∧ codeDigit c 1 ≤ 9 ∧ codeDigit c 2 ≤ 9 ∧ codeDigit c 3 ≤ 9 ∧ codeDigit c 4 ≤ 9 then
    some (10 * codeDigit c 4 + codeDigit c 3, 100 * codeDigit c 2 + 10 * codeDigit c 1 + codeDigit c 0)
  else none

/-- The code of a deck and room. -/
def codeOf (deck room : Nat) : CabinCode :=
  BitVec.ofNat 20 (deck / 10 % 10 * 65536 + deck % 10 * 4096 + room / 100 % 10 * 256 + room / 10 % 10 * 16 + room % 10)

/-- Decodes a cabin code to its deck and cabin index; `none` is BAD_CABIN (R14). -/
def Store.decode (st : Store) (c : CabinCode) : Option (Nat × Nat) :=
  match codeDeckRoom c with
  | none => none
  | some (deck, room) =>
    match firstFin 20 (fun k => (cell st.deckMap k).count != 0 && (cell st.deckMap k).deck == deck) with
    | none => none
    | some k =>
      let d := cell st.deckMap k
      if d.first ≤ room ∧ room < d.first + d.count then some (deck, st.base k.val + (room - d.first)) else none

/-- The cabin index a code decodes to. -/
def Store.cabinIndex (st : Store) (c : CabinCode) : Option Nat := (st.decode c).map Prod.snd

/-- The deck and room of a cabin index (R12). -/
def Store.deckRoom (st : Store) (i : Nat) : Option (Nat × Nat) :=
  (firstFin 20 (fun k => st.base k.val ≤ i ∧ i < st.base k.val + (cell st.deckMap k).count)).map
    (fun k => ((cell st.deckMap k).deck, i - st.base k.val + (cell st.deckMap k).first))

/-- The cabin code of a cabin index, as the deck map stands. -/
def Store.codeOfIndex (st : Store) (i : Nat) : CabinCode :=
  match st.deckRoom i with
  | some (deck, room) => codeOf deck room
  | none => 0

/-- The decode and lane check of an ENTRY or PRIVACY request: deck and cabin index (R15a). -/
def Store.decodeOnLane (st : Store) (lane : Fin 4) (c : CabinCode) : Decision (Nat × Nat) := do
  let x ← demand (st.decode c) .badCabin
  let range ← demand (cell st.laneDecks lane) .wrongLane
  test (range.low ≤ x.1 ∧ x.1 ≤ range.high) .wrongLane
  return x

/-! ### The card table (R21 to R24, R33) -/

/-- The home slot of a serial in a table of `c` slots (R21). -/
def homeSlot (c serial : Nat) : Nat := serial * 2654435769 % 4294967296 / 2 ^ (32 - Nat.log2 c)

/-- The probe window of a serial (R22). -/
def probeWindow (c serial : Nat) : List Nat := (List.range 8).map (fun k => (homeSlot c serial + k) % c)

/-- The walk of a lookup over the slots of a window (R23). -/
def walkWindow (slots : Table CardSlot) (serial : Nat) (window : List Nat) : Option (Nat × Card) :=
  match window with
  | [] => none
  | k :: rest =>
    match Table.find slots k with
    | none => none
    | some .retired => walkWindow slots serial rest
    | some (.inUse card) => if card.serial = serial then some (k, card) else walkWindow slots serial rest

/-- A lookup of a serial: the slot and card where it is found (R23). -/
def State.lookupCard (s : State) (serial : Nat) : Option (Nat × Card) :=
  walkWindow s.cards.slots serial (probeWindow s.store.caps.cards serial)

/-- The slot a new card is placed in: the first FREE or RETIRED slot of the window (R24). -/
def placeSlot (slots : Table CardSlot) (window : List Nat) : Option Nat :=
  window.find? (fun k =>
    match Table.find slots k with
    | none => true
    | some .retired => true
    | some (.inUse _) => false)

/-- Writes the card of an IN_USE slot. -/
def State.putCard (s : State) (k : Nat) (c : Card) : State :=
  s.withCards { s.cards with slots := Table.put s.cards.slots k (.inUse c) }

/-- Retiring a card (R18, R30): the slot becomes RETIRED, the counts move, and the serial leaves the card list of
the card's guest. -/
def State.retireCard (s : State) (k : Nat) (c : Card) : State :=
  let s := s.withCards
    { slots := Table.put s.cards.slots k .retired
      inUseCount := s.cards.inUseCount - 1, retiredCount := s.cards.retiredCount + 1 }
  match c.holder with
  | .guest i =>
    match s.guestAt i with
    | some g => s.putGuest i { g with cards := g.cards.erase c.serial }
    | none => s
  | .service _ => s
  | .officer => s

/-- Suspending every card of a card list, in list order (R31). -/
def State.suspendCards (s : State) (serials : List Nat) : State :=
  serials.foldl (fun s n =>
    match s.lookupCard n with
    | some (k, c) => s.putCard k { c with state := .suspended }
    | none => s) s

/-- Retiring every card of a card list, in list order (R31). -/
def State.retireCards (s : State) (serials : List Nat) : State :=
  serials.foldl (fun s n =>
    match s.lookupCard n with
    | some (k, c) => s.retireCard k c
    | none => s) s

/-- Whether a day lies within a card's validity days, both inclusive (R34). -/
abbrev Card.validOn (c : Card) (day : Nat) : Prop := c.validFrom ≤ day ∧ ∀ last ∈ c.validTo, day ≤ last

/-- What a successful resolution returns to the deciding block: the slot number, the serial and issue, and the class
with the guest index of a GUEST card or the deck range of a SERVICE card (R35). -/
structure Resolution where
  slot   : Nat
  serial : Nat
  issue  : Nat
  holder : Holder
  deriving DecidableEq, Repr

/-- What the resolution of a card found in a slot returns (R35). -/
def Card.resolution (c : Card) (slot : Nat) : Resolution := ⟨slot, c.serial, c.issue, c.holder⟩

/-- The resolution of a card presentation (R33). -/
def State.resolve (s : State) (p : Presentation) : Decision Resolution := do
  let found ← demand (s.lookupCard p.serial) .unknownCard
  let c := found.2
  test (¬ p.issue < c.issue) .staleIssue
  test (¬ c.issue < p.issue) .unknownCard
  test (c.state = .active) .cardSuspended
  test (c.validOn s.clock.day) .cardNotValid
  return c.resolution found.1

/-- The guest of a resolved card, after the class test. A GUEST card always names an ENROLLED guest (R20); of a
card that named none, the reply would be UNKNOWN_CARD (log entry 13). -/
def State.guestOf (s : State) (c : Resolution) : Decision (Nat × Guest) :=
  match c.holder with
  | .guest i =>
    match s.guestAt i with
    | some g => .ok (i, g)
    | none => .error (.unknownCard, [])
  | .service _ => .error (.denyClass, [])
  | .officer => .error (.denyClass, [])

/-! ### Occupant lists and member counts (R45, R46, R57, R76) -/

/-- The cabin unit appends a guest to an occupant list (R57). -/
def State.appendOccupant (s : State) (cabin guest : Nat) : State :=
  let c := s.cabinAt cabin
  s.putCabin cabin { c with occupants := c.occupants ++ [guest] }

/-- The cabin unit removes a guest from an occupant list; privacy is cleared when the list empties (R57). -/
def State.removeOccupant (s : State) (cabin guest : Nat) : State :=
  let c := s.cabinAt cabin
  let left := c.occupants.erase guest
  s.putCabin cabin { c with occupants := left, privacy := c.privacy && !left.isEmpty }

/-- The folio unit raises a member count by 1 (R76). -/
def State.joinFolio (s : State) (k : Nat) : State :=
  match s.folioAt k with
  | some f => s.putFolio k { f with members := f.members + 1 }
  | none => s

/-- The folio unit lowers a member count by 1; a CLOSED folio left without members becomes FREE (R76, R80). -/
def State.leaveFolio (s : State) (k : Nat) : State :=
  match s.folioAt k with
  | some f =>
    if f.state = .closed ∧ f.members - 1 = 0 then s.freeFolio k
    else s.putFolio k { f with members := f.members - 1 }
  | none => s

/-! ### Tallies (R117, R124, R126, R138, R141) -/

/-- The count that a tally watch compares (R126). -/
def Tally.sourceCount (t : Tally) (w : Watch) : Nat :=
  match w.source with
  | .aboardTotal => t.aboard
  | .ashoreTotal => t.ashore
  | .expectedTotal => t.expected
  | .stationAboard => cell t.aboardAt w.station
  | .unmusteredTotal => total t.unmustered

/-- The notice of a tally watch (R126). -/
def watchNotice (n : Fin 2) : Notice := if n = 0 then .tallyWatch0 else .tallyWatch1

/-- One tally watch is evaluated at the end of a step that began with the tallies `before` (R126): armed, its
source changed, and now at its value, it raises its notice and is disarmed. -/
def State.evaluateWatch (s : State) (before : Tally) (n : Fin 2) : State :=
  let w := cell s.tally.watches n
  if w.armed = true ∧ before.sourceCount w ≠ s.tally.sourceCount w ∧ s.tally.sourceCount w = w.value then
    (s.withTally { s.tally with watches := putCell s.tally.watches n { w with armed := false } }).raise (watchNotice n)
  else s

/-- The tally watches whose sources a step has changed are evaluated (R126). -/
def State.evaluateWatches (s : State) (before : Tally) : State :=
  (s.evaluateWatch before 0).evaluateWatch before 1

/-- Muster completion holds: a station is enabled, and every enabled station's unmustered count is 0 (R141). -/
def Tally.completionHolds (t : Tally) : Bool :=
  t.stations != 0 && (List.finRange 16).all (fun i => !t.stations.getLsbD i.val || cell t.unmustered i == 0)

/-- An evaluation of muster completion (R141). -/
def State.evaluateCompletion (s : State) : State :=
  match s.tally.complete, s.tally.completionHolds with
  | false, true => (s.withTally { s.tally with complete := true }).raise .musterComplete
  | true, false => (s.withTally { s.tally with complete := false }).raise .musterReopened
  | false, false => s
  | true, true => s

/-- Changes the ship total of one presence. -/
def Tally.mapTotal (t : Tally) (p : Presence) (f : Nat → Nat) : Tally :=
  match p with
  | .expected => { t with expected := f t.expected }
  | .aboard => { t with aboard := f t.aboard }
  | .ashore => { t with ashore := f t.ashore }
  | .departed => { t with departed := f t.departed }

/-- Changes the aboard count of one station. -/
def Tally.mapAboardAt (t : Tally) (st : Fin 16) (f : Nat → Nat) : Tally :=
  { t with aboardAt := putCell t.aboardAt st (f (cell t.aboardAt st)) }

/-- Changes the unmustered count of one station. -/
def Tally.mapUnmustered (t : Tally) (st : Fin 16) (f : Nat → Nat) : Tally :=
  { t with unmustered := putCell t.unmustered st (f (cell t.unmustered st)) }

/-- Steps 1 and 2 of R117. -/
def Tally.move (t : Tally) (st : Fin 16) (p q : Presence) : Tally :=
  let t := (t.mapTotal p (· - 1)).mapTotal q (· + 1)
  let t := if p = .aboard then t.mapAboardAt st (· - 1) else t
  if q = .aboard then t.mapAboardAt st (· + 1) else t

/-- Step 3 of R117 on the unmustered count of the guest's station. -/
def Tally.moveUnmustered (t : Tally) (st : Fin 16) (p q : Presence) : Tally :=
  let t := if p = .aboard then t.mapUnmustered st (· - 1) else t
  if q = .aboard then t.mapUnmustered st (· + 1) else t

/-- A guest's presence changes to `q`, another presence than the guest's: the record and the counts by steps 1 to
3 of R117. The evaluation of the watches (step 4) is the caller's. -/
def State.movePresence (s : State) (k : Nat) (g : Guest) (q : Presence) : State :=
  let s := (s.putGuest k { g with presence := q }).withTally (s.tally.move g.station g.presence q)
  if s.mode.muster = true ∧ g.epoch ≠ s.tally.epoch then
    (s.withTally (s.tally.moveUnmustered g.station g.presence q)).evaluateCompletion
  else s

/-- Presence correction of an EXPECTED or ASHORE guest (R124). -/
def State.correctPresence (s : State) (k : Nat) (g : Guest) : State :=
  ((s.movePresence k g .aboard).evaluateWatches s.tally).raise .presenceCorrected

/-- The epoch of the next muster: 255 is followed by 1 (R138). -/
def nextEpoch (e : Nat) : Nat := if e = 255 then 1 else e + 1

/-- The start of a muster (R138), taken only while MUSTER_ACTIVE is clear. -/
def State.startMuster (s : State) : State :=
  let e := nextEpoch s.tally.epoch
  let guests := Table.mapRecords s.roster.guests (fun g => if g.epoch = e then { g with epoch := 0 } else g)
  let t := s.withRoster { s.roster with guests := guests }
  let t := t.withTally { t.tally with epoch := e, unmustered := t.tally.aboardAt }
  ((t.withMode { t.mode with muster := true }).evaluateCompletion).evaluateWatches s.tally

/-! ### The charge computation and the folio checks (R39, R87 to R92, R103) -/

/-- Rounded half up (R87). -/
def roundHalfUp (n d : Nat) : Nat := if 2 * (n % d) < d then n / d else n / d + 1

/-- Rounded up (R87). -/
def roundUp (n d : Nat) : Nat := if n % d = 0 then n / d else n / d + 1

/-- The converted amount, the gratuity and the total of a charge (R88, R89). -/
structure Charge where
  converted : Nat
  gratuity  : Nat
  total     : Nat
  deriving DecidableEq, Repr

/-- Stages 1 to 3 of the charge computation; `none` is BAD_AMOUNT (R88, R89). -/
def State.computeCharge (s : State) (amount currency : Nat) (o : Outlet) : Option Charge :=
  match asFin 8 currency with
  | none => none
  | some k =>
    let entry := cell s.folio.currencies k
    if amount = 0 ∨ 999999 < amount ∨ entry.enabled = false then none
    else
      let c := if k = 0 then amount else roundHalfUp (amount * entry.live) 10000
      let t := roundHalfUp (c * o.gratuity) 1000
      if c + t = 0 ∨ 2000000 < c + t then none else some ⟨c, t, c + t⟩

/-- Stage 4: the hold amount (R103). -/
def holdAmount (t overrun : Nat) : Nat := roundUp (t * (1000 + overrun)) 1000

/-- Effective spent on a day (R39). -/
def Guest.effectiveSpent (g : Guest) (day : Nat) : Nat := if g.spendDay = day then g.spent else 0

/-- The day allowance, when a day limit is present (R39). -/
def Guest.dayAllowance (g : Guest) (day : Nat) : Option Nat :=
  g.dayLimit.map (fun l => l - g.effectiveSpent day - g.held)

/-- The available amount of a folio (R75). -/
def Folio.available (f : Folio) : Int := f.credit - f.balance - f.held

/-- The day check of R90 for an amount. -/
abbrev Guest.dayCheck (g : Guest) (day x : Nat) : Prop := ∀ l ∈ g.dayLimit, g.effectiveSpent day + g.held + x ≤ l

/-- The credit check of R91 for an amount. -/
abbrev Folio.creditCheck (f : Folio) (x : Nat) : Prop := f.balance + f.held + x ≤ f.credit

/-- The remaining allowance of R92. -/
def remainingAllowance (f : Folio) (g : Guest) (day : Nat) : Nat :=
  match g.dayAllowance day with
  | some a => (min f.available a).toNat
  | none => f.available.toNat

/-- Step 2 of the posting of R92. -/
def Guest.spend (g : Guest) (day t : Nat) : Guest :=
  { g with spendDay := day, spent := min (g.effectiveSpent day + t) 12000000 }

/-- The posting of a total to a folio and a guest (R92). -/
def State.postTotal (s : State) (folio guest t : Nat) : State :=
  let s := match s.folioAt folio with
    | some f => s.putFolio folio { f with balance := f.balance + t }
    | none => s
  match s.guestAt guest with
  | some g => s.putGuest guest (g.spend s.clock.day t)
  | none => s

/-! ### Holds (R100 to R102, R105, R107, R109) -/

/-- The slot of a new hold: the lowest FREE slot, otherwise the head of the lapsed list (R100). -/
def State.allocateHold (s : State) : Option Nat :=
  match (List.range 256).find? (fun k => (s.holdAt k).status == .free) with
  | some k => some k
  | none => s.hold.lapsed.head?

/-- The creation of a hold in an allocated slot (R100, R102, R105). -/
def State.createHold (s : State) (k : Nat) (h : Hold) : State :=
  let s := s.putHold k ⟨.active h, (s.holdAt k).generation + 1⟩
  let s := s.withHold { s.hold with lapsed := s.hold.lapsed.erase k }
  let s := match s.folioAt h.folio with
    | some f => s.putFolio h.folio { f with held := f.held + h.amount, holds := f.holds ++ [k] }
    | none => s
  match s.guestAt h.guest with
  | some g => s.putGuest h.guest { g with held := g.held + h.amount }
  | none => s

/-- The three changes of R102 at the end of an ACTIVE hold. -/
def State.releaseHeld (s : State) (k : Nat) (h : Hold) : State :=
  let s := match s.folioAt h.folio with
    | some f => s.putFolio h.folio { f with held := f.held - h.amount, holds := f.holds.erase k }
    | none => s
  match s.guestAt h.guest with
  | some g => s.putGuest h.guest { g with held := g.held - h.amount }
  | none => s

/-- An ACTIVE hold ends by completion, void or release: steps 1 and 2 of R107. -/
def State.endHold (s : State) (k : Nat) (h : Hold) : State :=
  (s.releaseHeld k h).putHold k ⟨.free, (s.holdAt k).generation⟩

/-- An ACTIVE hold lapses (R109). -/
def State.lapseHold (s : State) (k : Nat) (h : Hold) : State :=
  let t := (s.releaseHeld k h).putHold k ⟨.lapsed h, (s.holdAt k).generation⟩
  (t.withHold { t.hold with lapsed := t.hold.lapsed ++ [k] }).raise .holdLapsed

/-- The slots whose ACTIVE holds expire at a voyage second, in ascending order. -/
def State.expiring (s : State) (second : Nat) : List (Nat × Hold) :=
  s.hold.slots.filterMap (fun e =>
    match e.2.status with
    | .active h => if h.expiry = second then some (e.1, h) else none
    | .free => none
    | .lapsed _ => none)

/-- The lapses of one arrival of a voyage second (R109). -/
def State.lapseExpiring (s : State) (second : Nat) : State :=
  (s.expiring second).foldl (fun s e => s.lapseHold e.1 e.2) s

/-! ### The clock (R86, R148, R149) -/

/-- A staged currency rate becomes live (R86). -/
def Currency.install (c : Currency) : Currency :=
  match c.staged with
  | some r => { c with live := r, staged := none }
  | none => c

/-- A staged gratuity becomes live (R86). -/
def Outlet.install (o : Outlet) : Outlet :=
  match o.staged with
  | some g => { o with gratuity := g, staged := none }
  | none => o

/-- Installs a staged gratuity in every outlet, keeping the canonical form of the table. -/
def installOutlets (t : Table Outlet) : Table Outlet :=
  t.foldr (fun e rest => Table.putD rest e.1 e.2.install Outlet.cold) []

/-- The folio unit installs every staged value (R86). -/
def State.installStaged (s : State) : State :=
  s.withFolio
    { s.folio with currencies := s.folio.currencies.map Currency.install, outlets := installOutlets s.folio.outlets }

/-- Seconds since the last rollover second. -/
def Clock.elapsed (c : Clock) : Nat := c.voyage - c.lastRollover

/-- A rollover attempt passes the guard (R149). -/
abbrev Clock.rolls (c : Clock) : Prop := Config.rolloverGuard ≤ c.elapsed

/-- A rollover that is taken (R149). -/
def State.rollDay (s : State) : State :=
  let day := if s.clock.day = 999 then 999 else s.clock.day + 1
  ((s.withClock { s.clock with day := day, lastRollover := s.clock.voyage }).installStaged).raise .dayRolled

/-- A rollover attempt: taken or ignored (R149). -/
def State.attemptRollover (s : State) : State := if s.clock.rolls then s.rollDay else s

/-- A minute tick: the local minute advances, with a rollover attempt at the rollover minute (step 3 of R148). -/
def State.tickMinute (s : State) : State :=
  let minute := if s.clock.minute = 1439 then 0 else s.clock.minute + 1
  let s := s.withClock { s.clock with minute := minute }
  if minute = s.clock.rollover then s.attemptRollover else s

/-- The voyage second after an arrival; the last value stays (step 1 of R148). -/
def nextVoyage (v : Nat) : Nat := if v = Config.lastVoyageSecond then v else v + 1

/-- A second arrival of the running clock: the counts, the lapses that the new voyage second brings, and the
minute tick that completes a minute, at one event (R109, R148). -/
def State.arriveSecond (s : State) : State :=
  let v := nextVoyage s.clock.voyage
  let second := if s.clock.second + 1 = 60 then 0 else s.clock.second + 1
  let t := (s.withClock { s.clock with voyage := v, second := second, phase := 0 }).lapseExpiring v
  if s.clock.second + 1 = 60 then t.tickMinute else t

/-! ### The scrub (R7) -/

/-- What a scrub does to the records and tallies, taken at the acceptance of the command that starts it (R7), with
the SCRUBBING flag set and the scrub at its beginning. -/
def State.scrub (s : State) : State :=
  let s := s.withStore { s.store with scrub := some 0 }
  let s := s.withRoster { guests := [], enrolled := 0 }
  let s := s.withCards { slots := [], inUseCount := 0, retiredCount := 0 }
  let s := s.withFolio { s.folio with folios := [] }
  let s := s.withCabin { cabins := [], overrides := Vector.replicate 8 none }
  let s := s.withHold { slots := [], lapsed := [] }
  s.withTally
    { s.tally with
      expected := 0, aboard := 0, ashore := 0, departed := 0
      aboardAt := Vector.replicate 16 0, unmustered := Vector.replicate 16 0
      watches := s.tally.watches.map (fun w => { w with armed := false })
      groupPending := 0
      epoch := if s.mode.muster then s.tally.epoch else 0 }

end Sys2Proof.Machine
end

