-- ==== Sys2Proof/Machine/Cabins.lean ====
section
/-! DEFINITION. The cabin unit (Chapter 4): the decisions of ENTRY and PRIVACY, and SET_CABIN, SET_OVERRIDE, CLEAR_OVERRIDE,
READ_OVERRIDES and READ_CABIN. -/

namespace Sys2Proof.Machine

def cmdSetCabin : Command := ⟨0x40, 10, .record⟩
def cmdSetOverride : Command := ⟨0x41, 10, .record⟩
def cmdClearOverride : Command := ⟨0x42, 1, .record⟩
def cmdReadOverrides : Command := ⟨0x43, 0, .record⟩
def cmdReadCabin : Command := ⟨0x44, 5, .record⟩

/-- Whether a minute lies inside a service window (R60). -/
def Window.inside (w : Window) (m : Nat) : Bool :=
  if w.start < w.stop then decide (w.start ≤ m ∧ m < w.stop)
  else if w.stop < w.start then decide (w.start ≤ m ∨ m < w.stop)
  else true

/-- An absent window admits at every minute (R60). -/
def insideWindow (w : Option Window) (m : Nat) : Bool := w.all (fun x => x.inside m)

def eWindow (w : Window) : List Byte := e16 w.start ++ e16 w.stop

/-- The fields of a cabin record: occupants, privacy, out of order, window (R73). -/
def eCabin (draws : Nat) (c : Cabin) : List Byte :=
  eList e16 c.occupants ++ eFirst c.privacy ++ eFirst c.outOfOrder ++ eOpt draws 4 eWindow c.window

/-- SET_CABIN (R61). -/
def setCabin (p : List Byte) (s : State) : Verdict (State × List Byte) := do
  let a := readSetCabin p
  let out ← need a.outOfOrder .range
  let privacy ← need a.privacy .range
  let window ← need a.window.both .range
  check (∀ w ∈ window.join, w.start ≤ 1439 ∧ w.stop ≤ 1439) .range
  let i ← need (s.store.cabinIndex a.code) .badCabin
  let c := s.cabinAt i
  let c' := { c with
    outOfOrder := out.getD c.outOfOrder, privacy := privacy.getD c.privacy, window := window.getD c.window }
  return (s.putCabin i c', e16 i ++ eCabin s.draws c')

/-- The action of an override slot with the serial that ADMIT_ONE admits; a serial of 0 is out of range for it. -/
def overrideAction (k : OverrideKind) (serial : Nat) : Option OverrideAction :=
  match k with
  | .denyAll => some .denyAll
  | .serviceOnly => some .serviceOnly
  | .admitOne => if serial = 0 then none else some (.admitOne serial)

def State.putOverride (s : State) (n : Fin 8) (o : Option Override) : State :=
  s.withCabin { s.cabin with overrides := putCell s.cabin.overrides n o }

/-- SET_OVERRIDE (R63). -/
def setOverride (p : List Byte) (s : State) : Verdict (State × List Byte) := do
  let a := readSetOverride p
  let n ← need (asFin 8 a.slot) .range
  let kind ← need a.kind .range
  let enable ← need a.enable .range
  let action ← need (overrideAction kind a.serial) .range
  let i ← need (s.store.cabinIndex a.code) .badCabin
  check (enable = true → (List.finRange 8).all (fun m =>
    m == n || !((cell s.cabin.overrides m).any (fun o => o.enable && o.code == a.code))) = true) .duplicate
  return (s.putOverride n (some ⟨a.code, i, action, enable⟩), e16 i)

/-- CLEAR_OVERRIDE (R64). -/
def clearOverride (p : List Byte) (s : State) : Verdict (State × List Byte) := do
  let n ← need (asFin 8 (u8 p 0)) .range
  return (s.putOverride n none, [])

/-- The action of a slot, and the admitted serial of ADMIT_ONE. -/
def eOverrideAction (x : OverrideAction) : List Byte :=
  match x with
  | .denyAll => eEnum overrideKinds .denyAll
  | .serviceOnly => eEnum overrideKinds .serviceOnly
  | .admitOne serial => eEnum overrideKinds .admitOne ++ e32 serial

/-- A slot in READ_OVERRIDES: the mark that it is empty, or its fields (R64). -/
def eOverride (o : Option Override) : List Byte :=
  match o with
  | none => e8 0
  | some x =>
    e8 1 ++ eCode x.code ++ eOverrideAction x.action ++ eFirst x.enable ++ (if x.enable then e16 x.index else [])

/-- READ_OVERRIDES (R64). -/
def readOverrides (_ : List Byte) (s : State) : Verdict (State × List Byte) :=
  .ok (s, (List.finRange 8).flatMap (fun n => eOverride (cell s.cabin.overrides n)))

/-- The enabled override slot that names a cabin index (R62, R65). -/
def State.activeOverride (s : State) (i : Nat) : Option (Fin 8 × Override) :=
  (List.finRange 8).findSome? (fun n =>
    match cell s.cabin.overrides n with
    | some o => if o.enable ∧ o.index = i then some (n, o) else none
    | none => none)

/-- The index that a READ_CABIN selector names (R73). -/
def Store.selectCabin (st : Store) (x : Selector) : Verdict Nat :=
  match x with
  | .unknown => .error (.range, [])
  | .index i => if i < st.cabinCount then .ok i else .error (.range, [])
  | .key c => need (st.cabinIndex (BitVec.ofNat 20 c)) .badCabin

/-- READ_CABIN (R73). -/
def readCabin (p : List Byte) (s : State) : Verdict (State × List Byte) := do
  let i ← s.store.selectCabin (selectorAt p 0)
  let place := (s.store.deckRoom i).getD (0, 0)
  let c := s.cabinAt i
  return (s,
    e16 i ++ eCode (s.store.codeOfIndex i) ++ e16 place.1 ++ e16 place.2 ++ eCabin s.draws c
      ++ e16 s.clock.minute ++ eMark (insideWindow c.window s.clock.minute)
      ++ (match s.activeOverride i with
          | none => e8 0
          | some (n, o) => e8 1 ++ e8 n.val ++ eOverrideAction o.action))

/-! ### Decisions -/

/-- The tests of a PRIVACY report: the cabin index whose flag takes the latch state (R58). -/
def privacyTests (lane : Fin 4) (a : PrivacyFields) (s : State) : Decision Nat := do
  test s.serving .unavailable
  let place ← s.store.decodeOnLane lane a.code
  test ((s.cabinAt place.2).occupants ≠ []) .ignored
  return place.2

/-- The decision of a PRIVACY report (R58). -/
def decidePrivacy (lane : Fin 4) (r : Request) (s : State) : Decided :=
  let a := readPrivacy r.payload
  decided s (do
    let i ← privacyTests lane a s
    return ⟨s.putCabin i { s.cabinAt i with privacy := a.latch }, .noted, eMark a.latch⟩)

/-- The basis of an admission, in the order of R71. -/
inductive Basis where
  | officer
  | override
  | occupant
  | service
  deriving DecidableEq, Repr

def bases : List Basis := [.officer, .override, .occupant, .service]

/-- Test 6 of R66, the override test of R65: admitted, refused, or on to test 7. -/
def State.overrideTest (s : State) (i : Nat) (c : Resolution) : Decision Bool :=
  match s.activeOverride i with
  | none => .ok false
  | some (_, o) =>
    match o.action with
    | .denyAll => .error (.denyOverride, [])
    | .serviceOnly =>
      match c.holder with
      | .service _ => .ok false
      | .guest _ => .error (.denyOverride, [])
      | .officer => .error (.denyOverride, [])
    | .admitOne serial => if c.serial = serial then .ok true else .error (.denyOverride, [])

/-- An ADMIT reply without a change of state. -/
def admission (s : State) (b : Basis) : Decided := ⟨s, .admitted, eEnum bases b⟩

/-- The occupant decision: test 8 of R66 (R68, R69). The reply of an occupant carries the correction marker (R71). -/
def State.admitOccupant (s : State) (i k : Nat) : Decision Decided :=
  match s.guestAt k with
  | none => .error (.notOccupant, [])
  | some g =>
    if k ∈ (s.cabinAt i).occupants then
      match g.presence with
      | .departed => .error (.denyDeparted, [])
      | .aboard => .ok ⟨s, .admitted, eEnum bases .occupant ++ eMark false⟩
      | .expected => .ok ⟨s.correctPresence k g, .admitted, eEnum bases .occupant ++ eMark true⟩
      | .ashore => .ok ⟨s.correctPresence k g, .admitted, eEnum bases .occupant ++ eMark true⟩
    else .error (.notOccupant, [])

/-- The service decision: test 9 of R66 (R70). -/
def State.admitService (s : State) (deck i : Nat) (range : DeckRange) : Decision Decided := do
  test (range.low ≤ deck ∧ deck ≤ range.high) .denyClass
  test ((s.cabinAt i).privacy = false) .denyPrivacy
  test (insideWindow (s.cabinAt i).window s.clock.minute = true) .denyWindow
  return admission s .service

/-- Tests 7 to 9 of R66. -/
def State.admitByClass (s : State) (deck i : Nat) (c : Resolution) : Decision Decided := do
  test ((s.cabinAt i).outOfOrder = false) .denyOutOfOrder
  match c.holder with
  | .guest k => s.admitOccupant i k
  | .service range => s.admitService deck i range
  | .officer => .ok (admission s .officer)

/-- Tests 4 to 9 of R66, for a card that has resolved. -/
def State.admitCard (s : State) (deck i : Nat) (c : Resolution) : Decision Decided :=
  if c.holder = .officer then .ok (admission s .officer)
  else do
    test (s.mode.lockdown = false) .denyMode
    let admitted ← s.overrideTest i c
    if admitted then .ok (admission s .override) else s.admitByClass deck i c

/-- The decision of an ENTRY request (R66 to R71). -/
def decideEntry (lane : Fin 4) (r : Request) (s : State) : Decided :=
  let a := readEntry r.payload
  decided s (do
    test s.serving .unavailable
    let place ← s.store.decodeOnLane lane a.code
    let c ← s.resolve a.card
    s.admitCard place.1 place.2 c)

def execSetCabin (f : HostFrame) (s : State) : Host.Outcome State Fault Refusal :=
  .next (hostCommand cmdSetCabin f setCabin s)

def execSetOverride (f : HostFrame) (s : State) : Host.Outcome State Fault Refusal :=
  .next (hostCommand cmdSetOverride f setOverride s)

def execClearOverride (f : HostFrame) (s : State) : Host.Outcome State Fault Refusal :=
  .next (hostCommand cmdClearOverride f clearOverride s)

def execReadOverrides (f : HostFrame) (s : State) : Host.Outcome State Fault Refusal :=
  .next (hostCommand cmdReadOverrides f readOverrides s)

def execReadCabin (f : HostFrame) (s : State) : Host.Outcome State Fault Refusal :=
  .next (hostCommand cmdReadCabin f readCabin s)

/-- ENTRY (R66, R158). -/
def execEntry (lane : Fin 4) (s : State) : Host.Outcome State Fault Refusal :=
  .next (takeRequest .entry lane (decideEntry lane) s)

/-- PRIVACY (R58, R158). -/
def execPrivacy (lane : Fin 4) (s : State) : Host.Outcome State Fault Refusal :=
  .next (takeRequest .privacy lane (decidePrivacy lane) s)

end Sys2Proof.Machine
end

