-- ==== Sys2Proof/Machine/Cards.lean ====
section
/-! DEFINITION. The card resolver's commands (Section 2.3): ISSUE_CARD, REISSUE_CARD, SUSPEND_CARD, RESTORE_CARD, RETIRE_CARD
and READ_CARD. -/

namespace Sys2Proof.Machine

def cmdIssueCard : Command := ⟨0x20, 17, .record⟩
def cmdReissueCard : Command := ⟨0x21, 4, .record⟩
def cmdSuspendCard : Command := ⟨0x22, 4, .record⟩
def cmdRestoreCard : Command := ⟨0x23, 4, .record⟩
def cmdRetireCard : Command := ⟨0x24, 4, .record⟩
def cmdReadCard : Command := ⟨0x25, 5, .record⟩

/-- The class fields of a new card (R26). -/
def IssueCardFields.holder (a : IssueCardFields) (cls : CardClass) : Holder :=
  match cls with
  | .guest => .guest a.guest
  | .service => .service ⟨a.low, a.high⟩
  | .officer => .officer

/-- Tests 2 to 4 of R25, taken for a GUEST card. -/
def issueGuestTests (a : IssueCardFields) (cls : CardClass) (s : State) : Verdict Unit :=
  match cls with
  | .guest => do
    let g ← need (s.namedGuest a.guest) .notFound
    check (g.presence ≠ .departed) .wrongState
    check (g.cards.length < 4) .limit
  | .service => .ok ()
  | .officer => .ok ()

/-- Placing a card in a slot: the slot becomes IN_USE, the counts move (R18), and a GUEST card's serial joins the
tail of its guest's card list (R26). -/
def State.placeCard (s : State) (k : Nat) (c : Card) : State :=
  let wasRetired := s.cardSlotAt k == some .retired
  let s := s.withCards
    { slots := Table.put s.cards.slots k (.inUse c)
      inUseCount := s.cards.inUseCount + 1
      retiredCount := if wasRetired then s.cards.retiredCount - 1 else s.cards.retiredCount }
  match c.holder with
  | .guest i =>
    match s.guestAt i with
    | some g => s.putGuest i { g with cards := g.cards ++ [c.serial] }
    | none => s
  | .service _ => s
  | .officer => s

/-- ISSUE_CARD (R25, R26). -/
def issueCard (p : List Byte) (s : State) : Verdict (State × List Byte) := do
  let a := readIssueCard p
  let cls ← need a.cls .range
  let last ← need a.validTo.optional .range
  check (a.serial ≠ 0 ∧ a.validFrom ≤ 999 ∧ (∀ d ∈ last, d ≤ 999 ∧ a.validFrom ≤ d)
    ∧ (cls = .service → 1 ≤ a.low ∧ a.low ≤ a.high ∧ a.high ≤ 20)) .range
  issueGuestTests a cls s
  check (s.lookupCard a.serial = none) .duplicate
  let k ← need (placeSlot s.cards.slots (probeWindow s.store.caps.cards a.serial)) .crowded
  return (s.placeCard k ⟨a.serial, a.issue, a.holder cls, .active, a.validFrom, last⟩,
    e16 k ++ e16 (homeSlot s.store.caps.cards a.serial))

/-- REISSUE_CARD (R27). -/
def reissueCard (p : List Byte) (s : State) : Verdict (State × List Byte) := do
  let found ← need (s.lookupCard (u32 p 0)) .notFound
  check (found.2.issue ≠ 255) .limit
  return (s.putCard found.1 { found.2 with issue := found.2.issue + 1 }, e8 (found.2.issue + 1))

/-- SUSPEND_CARD (R28). -/
def suspendCard (p : List Byte) (s : State) : Verdict (State × List Byte) := do
  let found ← need (s.lookupCard (u32 p 0)) .notFound
  return (s.putCard found.1 { found.2 with state := .suspended }, [])

/-- Whether a card is a GUEST card of a DEPARTED guest (R29). -/
def State.ownerDeparted (s : State) (c : Card) : Bool :=
  match c.holder with
  | .guest i => (s.guestAt i).any (fun g => g.presence == .departed)
  | .service _ => false
  | .officer => false

/-- RESTORE_CARD (R29). -/
def restoreCard (p : List Byte) (s : State) : Verdict (State × List Byte) := do
  let found ← need (s.lookupCard (u32 p 0)) .notFound
  check (s.ownerDeparted found.2 = false) .wrongState
  return (s.putCard found.1 { found.2 with state := .active }, [])

/-- RETIRE_CARD (R30). -/
def retireCard (p : List Byte) (s : State) : Verdict (State × List Byte) := do
  let found ← need (s.lookupCard (u32 p 0)) .notFound
  return (s.retireCard found.1 found.2, e16 found.1)

def Holder.cls (h : Holder) : CardClass :=
  match h with
  | .guest _ => .guest
  | .service _ => .service
  | .officer => .officer

/-- A card record in the order of R19; a field its class has not is not sent (log entry 14). -/
def eCard (draws : Nat) (c : Card) : List Byte :=
  e32 c.serial ++ e8 c.issue ++ eEnum cardClasses c.holder.cls ++ eEnum cardStates c.state
    ++ (match c.holder with
        | .guest i => e16 i
        | .service r => e16 r.low ++ e16 r.high
        | .officer => [])
    ++ e16 c.validFrom ++ eOpt draws 2 e16 c.validTo

/-- The in-use, retired and free counts (R18). -/
def State.eCardCounts (s : State) : List Byte :=
  e16 s.cards.inUseCount ++ e16 s.cards.retiredCount
    ++ e16 (s.store.caps.cards - s.cards.inUseCount - s.cards.retiredCount)

/-- A card slot's state: FREE, IN_USE, RETIRED in the order of R18. -/
def cardSlotState (c : Option CardSlot) : Nat :=
  match c with
  | none => 0
  | some (.inUse _) => 1
  | some .retired => 2

/-- READ_CARD (R32). -/
def readCard (p : List Byte) (s : State) : Verdict (State × List Byte) :=
  let c := s.store.caps.cards
  match selectorAt p 0 with
  | .unknown => .error (.range, [])
  | .key serial =>
    match s.lookupCard serial with
    | some (k, card) => .ok (s, e16 k ++ e16 (homeSlot c serial) ++ eCard s.draws card ++ s.eCardCounts)
    | none =>
      .error (.notFound,
        e16 (homeSlot c serial) ++ (probeWindow c serial).flatMap (fun k => e8 (cardSlotState (s.cardSlotAt k))))
  | .index k =>
    if k < c then
      .ok (s,
        e8 (cardSlotState (s.cardSlotAt k))
          ++ (match s.cardSlotAt k with
              | some (.inUse card) => eCard s.draws card ++ e16 (homeSlot c card.serial)
              | some .retired => []
              | none => [])
          ++ s.eCardCounts)
    else .error (.range, [])

def execIssueCard (f : HostFrame) (s : State) : Host.Outcome State Fault Refusal :=
  .next (hostCommand cmdIssueCard f issueCard s)

def execReissueCard (f : HostFrame) (s : State) : Host.Outcome State Fault Refusal :=
  .next (hostCommand cmdReissueCard f reissueCard s)

def execSuspendCard (f : HostFrame) (s : State) : Host.Outcome State Fault Refusal :=
  .next (hostCommand cmdSuspendCard f suspendCard s)

def execRestoreCard (f : HostFrame) (s : State) : Host.Outcome State Fault Refusal :=
  .next (hostCommand cmdRestoreCard f restoreCard s)

def execRetireCard (f : HostFrame) (s : State) : Host.Outcome State Fault Refusal :=
  .next (hostCommand cmdRetireCard f retireCard s)

def execReadCard (f : HostFrame) (s : State) : Host.Outcome State Fault Refusal :=
  .next (hostCommand cmdReadCard f readCard s)

end Sys2Proof.Machine
end

