-- ==== Sys2Proof/Machine/Clocks.lean ====
section
/-! DEFINITION. The ship clock (Chapter 9): the second arrival with the minute tick and the lapses it brings, SET_CLOCK,
SHIFT_LOCAL_TIME, SET_ROLLOVER_MINUTE and READ_CLOCK. -/

namespace Sys2Proof.Machine

def cmdSetClock : Command := ⟨0x90, 4, .operation⟩
def cmdShiftLocalTime : Command := ⟨0x91, 2, .operation⟩
def cmdSetRolloverMinute : Command := ⟨0x92, 2, .operation⟩
def cmdReadClock : Command := ⟨0x93, 0, .operation⟩

/-- SECOND_ARRIVAL (R148). While the running flag is clear there is none (log entry 5). -/
def execSecondArrival (s : State) : Host.Outcome State Fault Refusal :=
  .next (if s.clock.running then s.arriveSecond else s)

/-- MINUTE_TICK: the second arrival that brings the second of minute to 60 (R148, log entry 15). -/
def execMinuteTick (s : State) : Host.Outcome State Fault Refusal :=
  .next (if s.clock.running = true ∧ s.clock.second + 1 = 60 then s.arriveSecond else s)

/-- HOLD_LAPSE: the second arrival that brings the voyage second to the expiry of an ACTIVE hold (R109, log entry
15). -/
def execHoldLapse (s : State) : Host.Outcome State Fault Refusal :=
  .next (if s.clock.running = true ∧ s.expiring (nextVoyage s.clock.voyage) ≠ [] then s.arriveSecond else s)

/-- The clock after SET_CLOCK (R151). A running clock goes on counting the periods towards its next second arrival
(R148); of a stopped clock the periods counted towards its first second arrival are a free value (log entry 3). -/
def Clock.set (c : Clock) (day minute phase : Nat) : Clock :=
  { c with
    running := true, second := 0, minute := minute, day := day, lastRollover := c.voyage
    phase := if c.running then c.phase else phase }

/-- SET_CLOCK (R151). -/
def setClock (p : List Byte) (s : State) : Verdict (State × List Byte) := do
  check (u16 p 0 ≤ 999 ∧ u16 p 2 ≤ 1439) .range
  return (s.withClock (s.clock.set (u16 p 0) (u16 p 2) (Config.clockPhase s.draws).val),
    e16 (u16 p 0) ++ e16 (u16 p 2) ++ e32 s.clock.voyage)

/-- The local minute after a shift (R152). -/
def shiftedMinute (minute : Nat) (d : Int) : Nat := ((minute + d) % 1440).toNat

/-- A forward shift passes over the rollover minute (R152): it is one of the `d` minutes that follow the old one. -/
abbrev crossesRollover (minute rollover : Nat) (d : Int) : Prop :=
  0 < d ∧ 1 ≤ (rollover + 1440 - minute) % 1440 ∧ ((rollover + 1440 - minute) % 1440 : Nat) ≤ d

/-- What a SHIFT_LOCAL_TIME reports of a rollover attempt, in the order of R152. -/
inductive ShiftReport where
  | noAttempt
  | rolled
  | ignored
  deriving DecidableEq, Repr

def shiftReports : List ShiftReport := [.noAttempt, .rolled, .ignored]

/-- A shift of the local minute, with the rollover attempt it makes (R149, R152). -/
def State.shiftMinute (s : State) (d : Int) : State × ShiftReport :=
  let t := s.withClock { s.clock with minute := shiftedMinute s.clock.minute d }
  if crossesRollover s.clock.minute s.clock.rollover d then
    (t.attemptRollover, if t.clock.rolls then .rolled else .ignored)
  else (t, .noAttempt)

/-- SHIFT_LOCAL_TIME (R152). -/
def shiftLocalTime (p : List Byte) (s : State) : Verdict (State × List Byte) := do
  check (-180 ≤ s16 p 0 ∧ s16 p 0 ≤ 180) .range
  check (s.clock.running = true) .wrongState
  let x := s.shiftMinute (s16 p 0)
  return (x.1, e16 x.1.clock.minute ++ eEnum shiftReports x.2)

/-- SET_ROLLOVER_MINUTE (R150). -/
def setRolloverMinute (p : List Byte) (s : State) : Verdict (State × List Byte) := do
  check (u16 p 0 ≤ 1439) .range
  return (s.withClock { s.clock with rollover := u16 p 0 }, e16 (u16 p 0))

/-- The number of currency entries that hold a staged rate (R154). -/
def FolioUnit.stagedCurrencies (u : FolioUnit) : Nat := (u.currencies.toList.filter (fun c => c.staged.isSome)).length

/-- The number of outlets that hold a staged gratuity (R154). -/
def FolioUnit.stagedOutlets (u : FolioUnit) : Nat := (u.outlets.filter (fun e => e.2.staged.isSome)).length

/-- READ_CLOCK (R154). -/
def readClock (_ : List Byte) (s : State) : Verdict (State × List Byte) :=
  let c := s.clock
  .ok (s,
    eFirst c.running ++ e32 c.voyage ++ e16 c.second ++ e16 c.minute ++ e16 c.day ++ e16 c.rollover
      ++ e32 c.lastRollover ++ e32 (Config.rolloverGuard - c.elapsed)
      ++ e16 s.folio.stagedCurrencies ++ e16 s.folio.stagedOutlets)

def execSetClock (f : HostFrame) (s : State) : Host.Outcome State Fault Refusal :=
  .next (hostCommand cmdSetClock f setClock s)

def execShiftLocalTime (f : HostFrame) (s : State) : Host.Outcome State Fault Refusal :=
  .next (hostCommand cmdShiftLocalTime f shiftLocalTime s)

def execSetRolloverMinute (f : HostFrame) (s : State) : Host.Outcome State Fault Refusal :=
  .next (hostCommand cmdSetRolloverMinute f setRolloverMinute s)

def execReadClock (f : HostFrame) (s : State) : Host.Outcome State Fault Refusal :=
  .next (hostCommand cmdReadClock f readClock s)

end Sys2Proof.Machine
end

