-- ==== Sys2Proof/Machine/Folios.lean ====
section
/-! DEFINITION. The folio unit (Chapter 5): the commands of folios, currencies and outlets, and the decisions of CHARGE and
BALANCE. -/

namespace Sys2Proof.Machine

def cmdOpenFolio : Command := ⟨0x50, 8, .record⟩
def cmdAmendFolio : Command := ⟨0x51, 8, .record⟩
def cmdPostPayment : Command := ⟨0x52, 6, .record⟩
def cmdPostCharge : Command := ⟨0x53, 6, .record⟩
def cmdSettleFolio : Command := ⟨0x54, 2, .record⟩
def cmdReadFolio : Command := ⟨0x55, 5, .record⟩
def cmdSetCurrency : Command := ⟨0x56, 8, .operation⟩
def cmdReadCurrencies : Command := ⟨0x57, 0, .operation⟩
def cmdSetOutlet : Command := ⟨0x58, 14, .operation⟩
def cmdReadOutlet : Command := ⟨0x59, 2, .operation⟩

/-! ### Folios -/

/-- The folio that is not FREE and holds a folio number (R75). -/
def State.findNumber (s : State) (number : Nat) : Option (Nat × Folio) :=
  s.folio.folios.find? (fun e => e.2.number == number)

/-- A folio as OPEN_FOLIO makes it (R77). -/
def Folio.fresh (number credit : Nat) : Folio :=
  { number := number, state := .opened, credit := credit, balance := 0, held := 0, members := 0, holds := [] }

/-- OPEN_FOLIO (R77). -/
def openFolio (p : List Byte) (s : State) : Verdict (State × List Byte) := do
  check (u32 p 0 ≠ 0) .range
  check (s.findNumber (u32 p 0) = none) .duplicate
  let k := Table.lowestFree s.folio.folios 0
  check (k < s.store.caps.folios) .capacity
  let credit := min (u32 p 4) Config.greatestLimit
  return (s.putFolio k (Folio.fresh (u32 p 0) credit), e16 k ++ e32 credit)

/-- The state of a folio after a state action (R78). -/
def FolioAction.apply (a : FolioAction) (x : FolioState) : FolioState :=
  match a, x with
  | .freeze, .opened => .frozen
  | .thaw, .frozen => .opened
  | _, x => x

/-- AMEND_FOLIO (R78). -/
def amendFolio (p : List Byte) (s : State) : Verdict (State × List Byte) := do
  let a := readAmendFolio p
  let credit ← need a.credit.changeable .range
  let action ← need a.action .range
  let f ← need (s.namedFolio a.folio) .notFound
  check (f.state ≠ .closed) .folioState
  let f' := { f with
    credit := (credit.map (min · Config.greatestLimit)).getD f.credit, state := action.apply f.state }
  return (s.putFolio a.folio f', eEnum folioStates (some f'.state) ++ e32 f'.credit ++ eInt f'.available)

/-- Tests 1 to 3 of POST_PAYMENT, POST_CHARGE: the folio that the posting names (R79). -/
def postable (p : List Byte) (s : State) : Verdict Folio := do
  check (1 ≤ u32 p 2 ∧ u32 p 2 ≤ 10000000) .range
  let f ← need (s.namedFolio (u16 p 0)) .notFound
  check (f.state ≠ .closed) .folioState
  return f

/-- A folio with a new balance, with the data of the response of R79. -/
def State.postBalance (s : State) (k : Nat) (f : Folio) (balance : Int) : State × List Byte :=
  let f' := { f with balance := balance }
  (s.putFolio k f', eInt f'.balance ++ eInt f'.available)

/-- POST_PAYMENT (R79). -/
def postPayment (p : List Byte) (s : State) : Verdict (State × List Byte) := do
  let f ← postable p s
  check (-99999999 ≤ f.balance - u32 p 2) .range
  return s.postBalance (u16 p 0) f (f.balance - u32 p 2)

/-- POST_CHARGE (R79). -/
def postCharge (p : List Byte) (s : State) : Verdict (State × List Byte) := do
  let f ← postable p s
  check (f.balance + f.held + u32 p 2 ≤ 99999999) .range
  return s.postBalance (u16 p 0) f (f.balance + u32 p 2)

/-- SETTLE_FOLIO (R80). -/
def settleFolio (p : List Byte) (s : State) : Verdict (State × List Byte) := do
  let k := u16 p 0
  let f ← need (s.namedFolio k) .notFound
  check (f.state ≠ .closed) .folioState
  check (f.holds = []) .holdsPending
  check (f.balance = 0) .balance
  if f.members = 0 then return (s.freeFolio k, eEnum folioStates none)
  else return (s.putFolio k { f with state := .closed }, eEnum folioStates (some .closed))

/-- The folio that a READ_FOLIO selector names (R81). -/
def State.selectFolio (s : State) (x : Selector) : Verdict (Nat × Folio) :=
  match x with
  | .unknown => .error (.range, [])
  | .index k => (need (s.namedFolio k) .notFound).map (fun f => (k, f))
  | .key number => need (s.findNumber number) .notFound

/-- The amount of the hold a slot's record holds. -/
def HoldSlot.amount (h : HoldSlot) : Nat :=
  match h.status with
  | .free => 0
  | .active x => x.amount
  | .lapsed x => x.amount

/-- An entry of a hold list in READ_FOLIO: slot number, generation and amount (R81). -/
def State.eHoldEntry (s : State) (k : Nat) : List Byte :=
  e8 k ++ e8 (s.holdAt k).generation.toNat ++ e32 (s.holdAt k).amount

/-- READ_FOLIO (R81). -/
def readFolio (p : List Byte) (s : State) : Verdict (State × List Byte) := do
  let (k, f) ← s.selectFolio (selectorAt p 0)
  return (s,
    e16 k ++ e32 f.number ++ eEnum folioStates (some f.state) ++ e32 f.credit ++ eInt f.balance ++ e32 f.held
      ++ eInt f.available ++ e16 f.members ++ eList s.eHoldEntry f.holds)

/-! ### Currencies and outlets -/

/-- A currency entry as sent: enable, live rate, staged rate (R83). -/
def eCurrency (draws : Nat) (c : Currency) : List Byte :=
  eFirst c.enabled ++ e32 c.live ++ eOpt draws 4 e32 c.staged

/-- The effect of SET_CURRENCY on an entry (R83). -/
def Currency.set (c : Currency) (enable : Option Bool) (rate : Option Nat) (timing : Timing) : Currency :=
  let c := { c with enabled := enable.getD c.enabled }
  match timing, rate with
  | .immediate, some r => { c with live := r }
  | .immediate, none => c
  | .atRollover, rate => { c with staged := rate }

/-- SET_CURRENCY (R83). -/
def setCurrency (p : List Byte) (s : State) : Verdict (State × List Byte) := do
  let a := readSetCurrency p
  let k ← need (asFin 8 a.entry) .range
  let enable ← need a.enable .range
  let rate ← need a.rate.optional .range
  let timing ← need a.timing .range
  check (k ≠ 0 ∧ ∀ r ∈ rate, 1 ≤ r ∧ r ≤ 1000000) .range
  let c := (cell s.folio.currencies k).set enable rate timing
  return (s.withFolio { s.folio with currencies := putCell s.folio.currencies k c }, eCurrency s.draws c)

/-- READ_CURRENCIES (R83). -/
def readCurrencies (_ : List Byte) (s : State) : Verdict (State × List Byte) :=
  .ok (s, s.folio.currencies.toList.flatMap (eCurrency s.draws))

/-- The six fields of an outlet, in the order of R84. -/
def eOutlet (draws : Nat) (o : Outlet) : List Byte :=
  eFirst o.isOpen ++ e8 o.gratuity ++ eOpt draws 1 e8 o.staged ++ e16 o.lifetime ++ e8 o.overrun ++ eFirst o.alcohol

/-- The effect of a gratuity setting on an outlet: unchanged, "withdraw staged", or a value clamped to 250 ‰ that
replaces the live or the staged one (R85). -/
def Outlet.setGratuity (o : Outlet) (setting : Option (Option Nat)) (timing : Timing) : Outlet :=
  match setting, timing with
  | none, _ => o
  | some none, _ => { o with staged := none }
  | some (some g), .immediate => { o with gratuity := min g 250 }
  | some (some g), .atRollover => { o with staged := some (min g 250) }

/-- SET_OUTLET (R85). -/
def setOutlet (p : List Byte) (s : State) : Verdict (State × List Byte) := do
  let a := readSetOutlet p
  let k ← need (asFin 64 a.outlet) .range
  let isOpen ← need a.isOpen.changeable .range
  let gratuity ← need a.gratuity.both .range
  let lifetime ← need a.lifetime.changeable .range
  let overrun ← need a.overrun.changeable .range
  let alcohol ← need a.alcohol.changeable .range
  let timing ← need a.timing .range
  let o := s.outletAt k.val
  let o' := ({ o with
    isOpen := isOpen.getD o.isOpen
    lifetime := (lifetime.map (fun l => max 1 (min l 240))).getD o.lifetime
    overrun := (overrun.map (min · 200)).getD o.overrun
    alcohol := alcohol.getD o.alcohol }).setGratuity gratuity timing
  return (s.putOutlet k.val o', eOutlet s.draws o')

/-- READ_OUTLET (R85). -/
def readOutlet (p : List Byte) (s : State) : Verdict (State × List Byte) := do
  let k ← need (asFin 64 (u16 p 0)) .range
  return (s, eOutlet s.draws (s.outletAt k.val))

/-! ### Decisions -/

/-- The account that the tests of a till's request find: the guest and the guest's folio. -/
structure Account where
  guestIndex : Nat
  guest      : Guest
  folioIndex : Nat
  folio      : Folio
  deriving DecidableEq, Repr

/-- Tests 1 and 2 of the CHARGE decision: the outlet of the till (R93). -/
def tillTests (lane : Fin 4) (r : Request) (s : State) : Decision (Fin 64) := do
  test s.serving .unavailable
  demand (s.tillAt lane r.terminal) .denyPost

/-- Tests 5 to 7 of the CHARGE decision: the guest of the card presented (R93). -/
def guestTests (card : Presentation) (s : State) : Decision (Nat × Guest) := do
  let c ← s.resolve card
  let x ← s.guestOf c
  test (x.2.presence ≠ .departed) .denyDeparted
  return x

/-- Test 9 of the CHARGE decision: the guest has a folio, and it is OPEN (R93). -/
def folioTest (x : Nat × Guest) (s : State) : Decision Account := do
  let k ← demand x.2.folio .noFolio
  let f ← demand (s.folioAt k) .denyFolio
  test (f.state = .opened) .denyFolio
  return ⟨x.1, x.2, k, f⟩

/-- The three mode flags are clear: test 4 of the CHARGE decision (R94). -/
abbrev State.modesClear (s : State) : Prop :=
  s.mode.muster = false ∧ s.mode.lockdown = false ∧ s.mode.charging = false

/-- What tests 1 to 11 of the CHARGE decision find. -/
structure Sale where
  outlet  : Fin 64
  account : Account
  charge  : Charge
  deriving DecidableEq, Repr

/-- Tests 1 to 11 of the CHARGE decision, which AUTHORISE takes too (R93, R104). -/
def saleTests (lane : Fin 4) (r : Request) (a : ChargeFields) (s : State) : Decision Sale := do
  let outlet ← tillTests lane r s
  let o := s.outletAt outlet.val
  test (o.isOpen = true) .denyOutletClosed
  test s.modesClear .denyMode
  let x ← guestTests a.card s
  test (x.2.mayCharge = true) .denyChargePrivilege
  let account ← folioTest x s
  let charge ← demand (s.computeCharge a.amount a.currency o) .badAmount
  test (a.alcohol = true → account.guest.band = .adult ∧ o.alcohol = true) .denyAge
  return ⟨outlet, account, charge⟩

/-- The day check and the credit check for an amount (R90, R91). -/
def limitTests (a : Account) (day x : Nat) : Decision Unit := do
  test (a.guest.dayCheck day x) .denyDayLimit
  test (a.folio.creditCheck x) .denyCredit

/-- The remaining allowance of an account as the state stands (R92). -/
def State.remaining (s : State) (a : Account) : Nat :=
  match s.folioAt a.folioIndex, s.guestAt a.guestIndex with
  | some f, some g => remainingAllowance f g s.clock.day
  | _, _ => 0

/-- The tests of a CHARGE request (R93). -/
def chargeTests (lane : Fin 4) (r : Request) (s : State) : Decision Sale := do
  let sale ← saleTests lane r (readCharge r.payload) s
  limitTests sale.account s.clock.day sale.charge.total
  return sale

/-- The decision of a CHARGE request (R92, R93). -/
def decideCharge (lane : Fin 4) (r : Request) (s : State) : Decided :=
  decided s (do
    let sale ← chargeTests lane r s
    let t := s.postTotal sale.account.folioIndex sale.account.guestIndex sale.charge.total
    return ⟨t, .approved,
      e32 sale.charge.total ++ e32 sale.charge.converted ++ e32 sale.charge.gratuity
        ++ e32 (t.remaining sale.account)⟩)

/-- The tests of a BALANCE request (R95). -/
def balanceTests (lane : Fin 4) (r : Request) (s : State) : Decision Account := do
  let _ ← tillTests lane r s
  let x ← guestTests (presentationAt r.payload 0) s
  folioTest x s

/-- The decision of a BALANCE request (R95). -/
def decideBalance (lane : Fin 4) (r : Request) (s : State) : Decided :=
  decided s (do
    let a ← balanceTests lane r s
    return ⟨s, .allowance,
      e32 (remainingAllowance a.folio a.guest s.clock.day) ++ eInt a.folio.available
        ++ e32 (a.guest.effectiveSpent s.clock.day)⟩)

def execOpenFolio (f : HostFrame) (s : State) : Host.Outcome State Fault Refusal :=
  .next (hostCommand cmdOpenFolio f openFolio s)

def execAmendFolio (f : HostFrame) (s : State) : Host.Outcome State Fault Refusal :=
  .next (hostCommand cmdAmendFolio f amendFolio s)

def execPostPayment (f : HostFrame) (s : State) : Host.Outcome State Fault Refusal :=
  .next (hostCommand cmdPostPayment f postPayment s)

def execPostCharge (f : HostFrame) (s : State) : Host.Outcome State Fault Refusal :=
  .next (hostCommand cmdPostCharge f postCharge s)

def execSettleFolio (f : HostFrame) (s : State) : Host.Outcome State Fault Refusal :=
  .next (hostCommand cmdSettleFolio f settleFolio s)

def execReadFolio (f : HostFrame) (s : State) : Host.Outcome State Fault Refusal :=
  .next (hostCommand cmdReadFolio f readFolio s)

def execSetCurrency (f : HostFrame) (s : State) : Host.Outcome State Fault Refusal :=
  .next (hostCommand cmdSetCurrency f setCurrency s)

def execReadCurrencies (f : HostFrame) (s : State) : Host.Outcome State Fault Refusal :=
  .next (hostCommand cmdReadCurrencies f readCurrencies s)

def execSetOutlet (f : HostFrame) (s : State) : Host.Outcome State Fault Refusal :=
  .next (hostCommand cmdSetOutlet f setOutlet s)

def execReadOutlet (f : HostFrame) (s : State) : Host.Outcome State Fault Refusal :=
  .next (hostCommand cmdReadOutlet f readOutlet s)

/-- CHARGE (R93, R158). -/
def execCharge (lane : Fin 4) (s : State) : Host.Outcome State Fault Refusal :=
  .next (takeRequest .charge lane (decideCharge lane) s)

/-- BALANCE (R95, R158). -/
def execBalance (lane : Fin 4) (s : State) : Host.Outcome State Fault Refusal :=
  .next (takeRequest .balance lane (decideBalance lane) s)

end Sys2Proof.Machine
end

