-- ==== Sys2Proof/Machine/Holds.lean ====
section
/-! DEFINITION. The hold pool (Chapter 6): the decisions of AUTHORISE, COMPLETE and VOID, and RELEASE_FOLIO_HOLDS and
READ_HOLD. -/

namespace Sys2Proof.Machine

def cmdReleaseFolioHolds : Command := ⟨0x60, 2, .record⟩
def cmdReadHold : Command := ⟨0x61, 1, .record⟩

/-- One hold of a folio's hold list ends as a VOID would end it (R108, R110). -/
def State.releaseSlot (s : State) (k : Nat) : State :=
  match (s.holdAt k).status with
  | .active h => s.endHold k h
  | .free => s
  | .lapsed _ => s

/-- Every hold of a hold list ends, the oldest first (R110). -/
def State.releaseHolds (s : State) (holds : List Nat) : State := holds.foldl State.releaseSlot s

/-- RELEASE_FOLIO_HOLDS (R110). The number of holds ended has two bytes (log entry 25). -/
def releaseFolioHolds (p : List Byte) (s : State) : Verdict (State × List Byte) := do
  let f ← need (s.namedFolio (u16 p 0)) .notFound
  return (s.releaseHolds f.holds,
    e16 f.holds.length ++ e32 (f.holds.map (fun k => (s.holdAt k).amount)).sum)

/-- The states of a hold slot, in the order of R98. -/
def HoldStatus.position (x : HoldStatus) : Nat :=
  match x with
  | .free => 0
  | .active _ => 1
  | .lapsed _ => 2

/-- The record of a hold (R98, R111). -/
def eHold (h : Hold) : List Byte :=
  e16 h.folio ++ e16 h.guest ++ e16 h.outlet.val ++ e32 h.amount ++ e32 h.expiry

/-- What READ_HOLD carries of a slot beyond its state and generation (R111). -/
def State.eHoldDetail (s : State) (k : Nat) : List Byte :=
  match (s.holdAt k).status with
  | .free => []
  | .active h => eHold h ++ e32 (h.expiry - s.clock.voyage)
  | .lapsed h => eHold h ++ e16 (s.hold.lapsed.idxOf k)

/-- The number of slots in a state; a slot that is not listed is FREE. -/
def HoldPool.count (u : HoldPool) (position : Nat) : Nat :=
  (u.slots.filter (fun e => e.2.status.position == position)).length

/-- The number of FREE slots (R111). -/
def HoldPool.freeCount (u : HoldPool) : Nat := 256 - u.count 1 - u.count 2

/-- READ_HOLD (R111). Every slot number of one byte names a slot. The numbers of FREE, ACTIVE and LAPSED slots have two
bytes: Section 12.1 lists no such count (log entry 25). -/
def readHold (p : List Byte) (s : State) : Verdict (State × List Byte) :=
  let k := u8 p 0
  .ok (s,
    e8 (s.holdAt k).status.position ++ e8 (s.holdAt k).generation.toNat ++ s.eHoldDetail k
      ++ e16 s.hold.freeCount ++ e16 (s.hold.count 1) ++ e16 (s.hold.count 2))

/-! ### Decisions -/

/-- The expiry of a hold made now at an outlet (step 1 of R105). -/
def State.expiryAt (s : State) (o : Outlet) : Nat := min (s.clock.voyage + o.lifetime * 60) Config.lastVoyageSecond

/-- What the fifteen tests of AUTHORISE find: the sale, the hold amount and the slot allocated (R104). -/
structure Opening where
  sale   : Sale
  amount : Nat
  slot   : Nat
  deriving DecidableEq, Repr

/-- The tests of an AUTHORISE request (R104). -/
def authoriseTests (lane : Fin 4) (r : Request) (s : State) : Decision Opening := do
  let sale ← saleTests lane r (readCharge r.payload) s
  let h := holdAmount sale.charge.total (s.outletAt sale.outlet.val).overrun
  limitTests sale.account s.clock.day h
  test (sale.account.folio.holds.length < 8) .folioHoldLimit
  let slot ← demand s.allocateHold .poolFull
  return ⟨sale, h, slot⟩

/-- The record of the hold that an AUTHORISE creates (R105). -/
def State.openingHold (s : State) (x : Opening) : Hold :=
  { folio := x.sale.account.folioIndex, guest := x.sale.account.guestIndex, outlet := x.sale.outlet
    amount := x.amount, expiry := s.expiryAt (s.outletAt x.sale.outlet.val) }

/-- The decision of an AUTHORISE request (R104, R105). -/
def decideAuthorise (lane : Fin 4) (r : Request) (s : State) : Decided :=
  decided s (do
    let x ← authoriseTests lane r s
    let t := s.createHold x.slot (s.openingHold x)
    return ⟨t, .approved,
      e8 x.slot ++ e8 (t.holdAt x.slot).generation.toNat ++ e32 x.sale.charge.total ++ e32 x.amount⟩)

/-- A post's outlet agrees with the record of a slot, when the slot has one (test 2 of R106). -/
def HoldSlot.outletAgrees (h : HoldSlot) (outlet : Fin 64) : Bool :=
  match h.status with
  | .free => true
  | .active x => x.outlet == outlet
  | .lapsed x => x.outlet == outlet

/-- The classification of a tag against the slot it names (R101). -/
def HoldSlot.classify (h : HoldSlot) (generation : BitVec 8) : Decision Hold :=
  match h.status with
  | .free => .error (.unknownHold, [])
  | .active x => if h.generation = generation then .ok x else .error (.unknownHold, [])
  | .lapsed _ => if h.generation = generation then .error (.holdLapsed, []) else .error (.unknownHold, [])

/-- Tests 1 to 4 of the COMPLETE decision, which VOID takes too: the ACTIVE hold the tag names (R106, R108). -/
def tagTests (lane : Fin 4) (r : Request) (tag : Tag) (s : State) : Decision Hold := do
  test s.serving .unavailable
  let outlet ← demand (s.tillAt lane r.terminal) .denyPost
  test ((s.holdAt tag.slot).outletAgrees outlet = true) .denyPost
  (s.holdAt tag.slot).classify tag.generation

/-- The tests of a COMPLETE request: the hold it ends and its final charge (R106). -/
def completeTests (lane : Fin 4) (r : Request) (s : State) : Decision (Hold × Charge) := do
  let a := readComplete r.payload
  let h ← tagTests lane r a.tag s
  let c ← demand (s.computeCharge a.amount a.currency (s.outletAt h.outlet.val)) .badAmount
  if h.amount < c.total then .error (.overHold, e32 c.total ++ e32 h.amount) else return (h, c)

/-- The decision of a COMPLETE request (R106, R107). -/
def decideComplete (lane : Fin 4) (r : Request) (s : State) : Decided :=
  decided s (do
    let x ← completeTests lane r s
    return ⟨(s.endHold (readComplete r.payload).tag.slot x.1).postTotal x.1.folio x.1.guest x.2.total, .approved,
      e32 x.2.total ++ e32 x.2.converted ++ e32 x.2.gratuity⟩)

/-- The decision of a VOID request (R108). -/
def decideVoid (lane : Fin 4) (r : Request) (s : State) : Decided :=
  let tag := tagAt r.payload 0
  decided s (do
    let h ← tagTests lane r tag s
    return ⟨s.endHold tag.slot h, .voided, e32 h.amount⟩)

def execReleaseFolioHolds (f : HostFrame) (s : State) : Host.Outcome State Fault Refusal :=
  .next (hostCommand cmdReleaseFolioHolds f releaseFolioHolds s)

def execReadHold (f : HostFrame) (s : State) : Host.Outcome State Fault Refusal :=
  .next (hostCommand cmdReadHold f readHold s)

/-- AUTHORISE (R104, R105, R158). -/
def execAuthorise (lane : Fin 4) (s : State) : Host.Outcome State Fault Refusal :=
  .next (takeRequest .authorise lane (decideAuthorise lane) s)

/-- COMPLETE (R106, R107, R158). -/
def execComplete (lane : Fin 4) (s : State) : Host.Outcome State Fault Refusal :=
  .next (takeRequest .complete lane (decideComplete lane) s)

/-- VOID (R108, R158). -/
def execVoid (lane : Fin 4) (s : State) : Host.Outcome State Fault Refusal :=
  .next (takeRequest .void lane (decideVoid lane) s)

end Sys2Proof.Machine
end

