-- ==== Sys2Proof/Machine/Roster.lean ====
section
/-! DEFINITION. The guest roster's commands (Chapter 3): ENROL_GUEST, AMEND_GUEST, DEPART_GUEST, RETIRE_GUEST, LOOKUP_GUEST,
READ_GUEST and FIND_GUESTS. -/

namespace Sys2Proof.Machine

def cmdEnrolGuest : Command := ⟨0x30, 21, .record⟩
def cmdAmendGuest : Command := ⟨0x31, 28, .record⟩
def cmdDepartGuest : Command := ⟨0x32, 2, .record⟩
def cmdRetireGuest : Command := ⟨0x33, 2, .record⟩
def cmdLookupGuest : Command := ⟨0x34, 4, .record⟩
def cmdReadGuest : Command := ⟨0x35, 2, .record⟩
def cmdFindGuests : Command := ⟨0x36, 14, .record⟩

/-- A value above the greatest limit is clamped to it (R41, R43). -/
def clampLimit (l : Nat) : Nat := min l Config.greatestLimit

/-- An optional cabin code of a host command, decoded (R14): `none` is BAD_CABIN. -/
def Store.decodeOptional (st : Store) (c : Option CabinCode) : Option (Option Nat) :=
  match c with
  | none => some none
  | some code => (st.cabinIndex code).map some

/-- An ENROLLED guest that holds a booking reference. -/
def State.findReference (s : State) (reference : Nat) : Option (Nat × Guest) :=
  s.roster.guests.find? (fun e => e.2.reference == reference)

/-- The folio of an index is OPEN (R41, R43). -/
abbrev State.folioOpen (s : State) (k : Nat) : Prop := (s.folioAt k).map Folio.state = some .opened

/-- The occupant list of a cabin holds fewer than 6 guests (R41, R43). -/
abbrev State.cabinHasRoom (s : State) (c : Nat) : Prop := (s.cabinAt c).occupants.length < 6

/-- May charge at enrolment: DEFAULT is no for CHILD and yes for the others (R42). -/
def defaultMayCharge (setting : Option Bool) (band : AgeBand) : Bool :=
  match setting with
  | some b => b
  | none => band != .child

/-- A present cabin gains an occupant. -/
def State.enterCabin (s : State) (cabin : Option Nat) (guest : Nat) : State :=
  match cabin with
  | some c => s.appendOccupant c guest
  | none => s

/-- A present cabin loses an occupant. -/
def State.quitCabin (s : State) (cabin : Option Nat) (guest : Nat) : State :=
  match cabin with
  | some c => s.removeOccupant c guest
  | none => s

/-- A present folio gains a member. -/
def State.enterFolio (s : State) (folio : Option Nat) : State :=
  match folio with
  | some f => s.joinFolio f
  | none => s

/-- A present folio loses a member. -/
def State.quitFolio (s : State) (folio : Option Nat) : State :=
  match folio with
  | some f => s.leaveFolio f
  | none => s

/-- The effects of ENROL_GUEST (R42). -/
def State.enrol (s : State) (k : Nat) (g : Guest) : State :=
  let t := s.withRoster { guests := Table.put s.roster.guests k g, enrolled := s.roster.enrolled + 1 }
  let t := (t.enterCabin g.cabin k).enterFolio g.folio
  (t.withTally { t.tally with expected := t.tally.expected + 1 }).evaluateWatches s.tally

/-- ENROL_GUEST (R40 to R42). -/
def enrolGuest (p : List Byte) (s : State) : Verdict (State × List Byte) := do
  let a := readEnrolGuest p
  let band ← need a.band .range
  let may ← need a.mayCharge .range
  let watch ← need a.watch .range
  let code ← need a.cabin.optional .range
  let folio ← need a.folio.optional .range
  let limit ← need a.dayLimit.optional .range
  let station ← need (asFin 16 a.station) .range
  check (a.reference ≠ 0 ∧ ∀ f ∈ folio, f < s.store.caps.folios) .range
  let cabin ← need (s.store.decodeOptional code) .badCabin
  check (s.findReference a.reference = none) .duplicate
  let k := Table.lowestFree s.roster.guests 0
  check (k < s.store.caps.guests) .capacity
  check (∀ c ∈ cabin, s.cabinHasRoom c) .limit
  check (∀ f ∈ folio, s.folioOpen f) .folioState
  let g : Guest :=
    { reference := a.reference, cabin := cabin, folio := folio, band := band
      mayCharge := defaultMayCharge may band, dayLimit := limit.map clampLimit, station := station
      watch := watch, cards := [], presence := .expected, epoch := 0, lastPass := none
      spendDay := s.clock.day, spent := 0, held := 0 }
  return (s.enrol k g, e16 k)

/-- The tally unit's part of a change of station (R47); the evaluation of the watches is the caller's. -/
def State.moveStation (s : State) (g : Guest) (st : Fin 16) : State :=
  if g.presence = .aboard then
    let t := s.withTally ((s.tally.mapAboardAt g.station (· - 1)).mapAboardAt st (· + 1))
    if t.mode.muster = true ∧ g.epoch ≠ t.tally.epoch then
      (t.withTally ((t.tally.mapUnmustered g.station (· - 1)).mapUnmustered st (· + 1))).evaluateCompletion
    else t
  else s

/-- The effects of AMEND_GUEST from the record `g` to the record `h` (R44 to R47): an owner acts only on a change. -/
def State.amend (s : State) (k : Nat) (g h : Guest) : State :=
  let t := if h.cabin = g.cabin then s else (s.quitCabin g.cabin k).enterCabin h.cabin k
  let t := if h.folio = g.folio then t else (t.quitFolio g.folio).enterFolio h.folio
  let t := t.putGuest k h
  let t := if h.station = g.station then t else t.moveStation g h.station
  t.evaluateWatches s.tally

/-- AMEND_GUEST (R43 to R47). -/
def amendGuest (p : List Byte) (s : State) : Verdict (State × List Byte) := do
  let a := readAmendGuest p
  let g ← need (s.namedGuest a.guest) .notFound
  let reference ← need a.reference.changeable .range
  let code ← need a.cabin.both .range
  let folio ← need a.folio.both .range
  let band ← need a.band.changeable .range
  let may ← need a.mayCharge.changeable .range
  let limit ← need a.dayLimit.both .range
  let place ← need a.station.changeable .range
  let watch ← need a.watch.changeable .range
  let station ← need (asFin 16 (place.getD g.station.val)) .range
  check ((∀ r ∈ reference, r ≠ 0) ∧ ∀ f ∈ folio.join, f < s.store.caps.folios) .range
  let cabin ← need (s.store.decodeOptional code.join) .badCabin
  let h : Guest :=
    { g with
      reference := reference.getD g.reference
      cabin := if code.isSome then cabin else g.cabin
      folio := folio.getD g.folio
      band := band.getD g.band
      mayCharge := may.getD g.mayCharge
      dayLimit := (limit.map (Option.map clampLimit)).getD g.dayLimit
      station := station
      watch := watch.getD g.watch }
  check (h.reference ≠ g.reference → s.findReference h.reference = none) .duplicate
  check (h.folio ≠ g.folio → g.held = 0) .holdsPending
  check (h.folio ≠ g.folio → ∀ f ∈ h.folio, s.folioOpen f) .folioState
  check (h.cabin ≠ g.cabin → ∀ c ∈ h.cabin, s.cabinHasRoom c) .limit
  return (s.amend a.guest g h, [])

/-- DEPART_GUEST (R31, R48). -/
def departGuest (p : List Byte) (s : State) : Verdict (State × List Byte) := do
  let k := u16 p 0
  let g ← need (s.namedGuest k) .notFound
  check (g.presence ≠ .aboard) .aboard
  check (g.presence ≠ .departed) .wrongState
  return (((s.movePresence k g .departed).evaluateWatches s.tally).suspendCards g.cards, [])

/-- The effects of RETIRE_GUEST (R50). -/
def State.retire (s : State) (k : Nat) (g : Guest) : State :=
  let t := ((s.retireCards g.cards).quitCabin g.cabin k).quitFolio g.folio
  let t := (t.withTally (t.tally.mapTotal g.presence (· - 1))).evaluateWatches s.tally
  t.withRoster { guests := Table.erase t.roster.guests k, enrolled := t.roster.enrolled - 1 }

/-- RETIRE_GUEST (R31, R49, R50). The number of cards retired has two bytes (log entry 25). -/
def retireGuest (p : List Byte) (s : State) : Verdict (State × List Byte) := do
  let k := u16 p 0
  let g ← need (s.namedGuest k) .notFound
  check (g.presence ≠ .aboard) .aboard
  check (g.held = 0) .holdsPending
  return (s.retire k g, e16 g.cards.length)

/-- LOOKUP_GUEST (R51). -/
def lookupGuest (p : List Byte) (s : State) : Verdict (State × List Byte) := do
  check (u32 p 0 ≠ 0) .range
  let e ← need (s.findReference (u32 p 0)) .notFound
  return (s, e16 e.1 ++ eEnum presences e.2.presence)

/-- The cabin of a guest in READ_GUEST: index and code (R52). -/
def Store.eGuestCabin (st : Store) (i : Nat) : List Byte := e16 i ++ eCode (st.codeOfIndex i)

/-- The day allowance in READ_GUEST. A guest without a day limit has none (R39), and R52 names no mark for that; the model
sends the day allowance as an optional field (log entry 40). -/
def eDayAllowance (draws : Nat) (x : Option Nat) : List Byte := eOpt draws 4 e32 x

/-- READ_GUEST (R39, R52). The day allowance goes out as `eDayAllowance` (log entry 40). -/
def readGuest (p : List Byte) (s : State) : Verdict (State × List Byte) := do
  let g ← need (s.namedGuest (u16 p 0)) .notFound
  return (s,
    e32 g.reference ++ eEnum ageBands g.band ++ eFirst g.mayCharge ++ e16 g.station.val ++ eFirst g.watch
      ++ eOpt s.draws 5 s.store.eGuestCabin g.cabin ++ eOpt s.draws 2 e16 g.folio ++ eOpt s.draws 4 e32 g.dayLimit
      ++ eList e32 g.cards
      ++ eEnum presences g.presence ++ e8 g.epoch ++ eOpt s.draws 4 e32 g.lastPass
      ++ e16 g.spendDay ++ e32 g.spent ++ e32 (g.effectiveSpent s.clock.day)
      ++ eDayAllowance s.draws (g.dayAllowance s.clock.day) ++ e32 g.held
      ++ e16 s.roster.enrolled)

/-- A guest matches a filter when each criterion present holds for it (R53). -/
def Guest.agrees (g : Guest) (presence : Option Presence) (station : Option Nat) (cabin folio : Option Nat) : Bool :=
  presence.all (fun x => g.presence == x) && station.all (fun x => g.station.val == x)
    && cabin.all (fun x => g.cabin == some x) && folio.all (fun x => g.folio == some x)

/-- The continuation of a walk that collects 16 at most: the last index collected plus 1, or none for the end, where
`last` is the highest index of the table (R53, R164). -/
def continuation (found : List Nat) (last : Nat) : Option Nat :=
  match found.getLast? with
  | some k => if found.length = 16 ∧ k < last then some (k + 1) else none
  | none => none

/-- FIND_GUESTS (R53). The continuation goes out as `eContinuation` (log entry 37). -/
def findGuests (p : List Byte) (s : State) : Verdict (State × List Byte) := do
  let a := readFindGuests p
  let presence ← need a.presence.optional .range
  let station ← need a.station.optional .range
  let code ← need a.cabin.optional .range
  let folio ← need a.folio.optional .range
  check (a.start ≤ s.store.caps.guests ∧ (∀ x ∈ station, x ≤ 15) ∧ ∀ f ∈ folio, f < s.store.caps.folios) .range
  let cabin ← need (s.store.decodeOptional code) .badCabin
  let found := ((s.roster.guests.filter (fun e =>
    decide (a.start ≤ e.1) && e.2.agrees presence station cabin folio)).map Prod.fst).take 16
  return (s,
    eList e16 found ++ eContinuation s.draws (continuation found (s.store.caps.guests - 1)) ++ e16 s.roster.enrolled)

def execEnrolGuest (f : HostFrame) (s : State) : Host.Outcome State Fault Refusal :=
  .next (hostCommand cmdEnrolGuest f enrolGuest s)

def execAmendGuest (f : HostFrame) (s : State) : Host.Outcome State Fault Refusal :=
  .next (hostCommand cmdAmendGuest f amendGuest s)

def execDepartGuest (f : HostFrame) (s : State) : Host.Outcome State Fault Refusal :=
  .next (hostCommand cmdDepartGuest f departGuest s)

def execRetireGuest (f : HostFrame) (s : State) : Host.Outcome State Fault Refusal :=
  .next (hostCommand cmdRetireGuest f retireGuest s)

def execLookupGuest (f : HostFrame) (s : State) : Host.Outcome State Fault Refusal :=
  .next (hostCommand cmdLookupGuest f lookupGuest s)

def execReadGuest (f : HostFrame) (s : State) : Host.Outcome State Fault Refusal :=
  .next (hostCommand cmdReadGuest f readGuest s)

def execFindGuests (f : HostFrame) (s : State) : Host.Outcome State Fault Refusal :=
  .next (hostCommand cmdFindGuests f findGuests s)

end Sys2Proof.Machine
end

