-- ==== Sys2Proof/Machine/Lanes.lean ====
section
/-! DEFINITION. The field lanes (Chapter 10): the bytes of a request frame, the end of a reply frame, HALT_FIELD,
RESUME_FIELD, ADD_POST, REMOVE_POST, READ_POSTS and READ_LANES. -/

namespace Sys2Proof.Machine

def cmdHaltField : Command := ⟨0xA0, 0, .operation⟩
def cmdResumeField : Command := ⟨0xA1, 0, .operation⟩
def cmdAddPost : Command := ⟨0xA2, 12, .structural⟩
def cmdRemovePost : Command := ⟨0xA3, 4, .operation⟩
def cmdReadPosts : Command := ⟨0xA4, 2, .operation⟩
def cmdReadLanes : Command := ⟨0xA5, 0, .operation⟩

/-- REQUEST_FRAME: the bytes of a frame arrive on a lane (R156, R157). -/
def execRequestFrame (n : Fin 4) (bytes : List Byte) (s : State) : Host.Outcome State Fault Refusal :=
  .next (bytes.foldl (fun t b => t.receiveByte n b) s)

/-- A lane whose transmitter has completed a reply: the oldest busy answer is sent next, otherwise the transmitter
is IDLE (R159). -/
def Lane.completeReply (l : Lane) (r : Reply) : Lane :=
  match l.busy with
  | b :: rest => { l with transmitter := .sending b, busy := rest, sent := r.bytes }
  | [] => { l with transmitter := .idle, sent := r.bytes }

/-- REPLY_FRAME_COMPLETE (R159). An IDLE transmitter completes no frame (log entry 5). -/
def execReplyFrameComplete (n : Fin 4) (s : State) : Host.Outcome State Fault Refusal :=
  .next (match (s.laneAt n).transmitter with
    | .idle => s
    | .sending r => s.putLane n ((s.laneAt n).completeReply r))

/-! ### Field service -/

/-- The field service state as sent: RUNNING at position 0, HALTED at position 1 (R155). -/
def eService (running : Bool) : List Byte := e8 (if running then 0 else 1)

/-- HALT_FIELD (R160). -/
def haltField (_ : List Byte) (s : State) : Verdict (State × List Byte) :=
  .ok (s.withField { s.field with running := false }, eService false)

/-- RESUME_FIELD (R160). During a scrub the slot is SCRUBBING and the frame is discarded before it comes here (log
entry 43). -/
def resumeField (_ : List Byte) (s : State) : Verdict (State × List Byte) :=
  .ok (s.withField { s.field with running := true }, eService true)

/-! ### The post table -/

/-- The kind of a post with the fields that belong to it; a field out of range gives none (test 2 of R162). -/
def AddPostFields.postKind (a : AddPostFields) : Option PostKind := do
  match ← a.kind with
  | .till => return .till (← asFin 64 a.outlet)
  | .gate => return .gate (← asFin 8 a.gangway) (← a.direction)
  | .musterReader => return .musterReader (← asFin 16 a.station)

/-- The lane and terminal address of a command; out of range gives none (R162, R163). -/
def terminalOf (lane address : Nat) : Option (Fin 4 × BitVec 10) :=
  if address ≤ 1023 then (asFin 4 lane).map (fun n => (n, BitVec.ofNat 10 address)) else none

/-- ADD_POST (R162). -/
def addPost (p : List Byte) (s : State) : Verdict (State × List Byte) := do
  let a := readAddPost p
  let t ← need (terminalOf a.lane a.address) .range
  let kind ← need a.postKind .range
  check (s.postAt t.1 t.2 = none) .duplicate
  let k := Table.lowestFree s.field.posts 0
  check (k < 256) .capacity
  return (s.withField { s.field with posts := Table.put s.field.posts k ⟨t.1, t.2, kind⟩ }, e16 k)

/-- REMOVE_POST (R163). -/
def removePost (p : List Byte) (s : State) : Verdict (State × List Byte) := do
  let t ← need (terminalOf (u16 p 0) (u16 p 2)) .range
  let e ← need (s.postAt t.1 t.2) .notFound
  return (s.withField { s.field with posts := Table.erase s.field.posts e.1 }, e16 e.1)

/-- The kind of a post and the fields of its kind. -/
def ePostKind (k : PostKind) : List Byte :=
  match k with
  | .till outlet => eEnum postClasses .till ++ e16 outlet.val
  | .gate gangway direction => eEnum postClasses .gate ++ e16 gangway.val ++ eEnum directions direction
  | .musterReader station => eEnum postClasses .musterReader ++ e16 station.val

/-- A post with its entry number (R164). -/
def ePost (e : Nat × Post) : List Byte :=
  e16 e.1 ++ e16 e.2.lane.val ++ e16 e.2.terminal.toNat ++ ePostKind e.2.kind

/-- READ_POSTS (R164). The continuation goes out as `eContinuation` (log entry 37). -/
def readPosts (p : List Byte) (s : State) : Verdict (State × List Byte) := do
  check (u16 p 0 ≤ 256) .range
  let found := (s.field.posts.filter (fun e => decide (u16 p 0 ≤ e.1))).take 16
  return (s,
    eList ePost found ++ eContinuation s.draws (continuation (found.map Prod.fst) 255) ++ e16 s.field.posts.length)

/-- The transmitter as sent: IDLE at position 0, SENDING at position 1 (R155). -/
def Transmitter.position (x : Transmitter) : Nat :=
  match x with
  | .idle => 0
  | .sending _ => 1

/-- A lane in READ_LANES (R164), its deck range as `eLaneRange` (log entry 36). READY is Asserted at position 0
(R155). -/
def State.eLane (s : State) (n : Fin 4) : List Byte :=
  let l := s.laneAt n
  e16 l.queue.length ++ eFirst l.ready ++ e8 l.transmitter.position ++ e16 l.busy.length
    ++ eLaneRange s.draws (cell s.store.laneDecks n)

/-- READ_LANES (R164). -/
def readLanes (_ : List Byte) (s : State) : Verdict (State × List Byte) :=
  .ok (s, eService s.field.running ++ (List.finRange 4).flatMap s.eLane)

def execHaltField (f : HostFrame) (s : State) : Host.Outcome State Fault Refusal :=
  .next (hostCommand cmdHaltField f haltField s)

def execResumeField (f : HostFrame) (s : State) : Host.Outcome State Fault Refusal :=
  .next (hostCommand cmdResumeField f resumeField s)

def execAddPost (f : HostFrame) (s : State) : Host.Outcome State Fault Refusal :=
  .next (hostCommand cmdAddPost f addPost s)

def execRemovePost (f : HostFrame) (s : State) : Host.Outcome State Fault Refusal :=
  .next (hostCommand cmdRemovePost f removePost s)

def execReadPosts (f : HostFrame) (s : State) : Host.Outcome State Fault Refusal :=
  .next (hostCommand cmdReadPosts f readPosts s)

def execReadLanes (f : HostFrame) (s : State) : Host.Outcome State Fault Refusal :=
  .next (hostCommand cmdReadLanes f readLanes s)

end Sys2Proof.Machine
end

