-- ==== Sys2Proof/Decode.lean ====
section
/-! DEFINITION. The rows of spec/opcode_table.json give no bits, so `decodeTableWord` spells no command. What the spec does
encode is the command code of a link transaction (Section 12.3): `decodeTransaction` reads the bytes of one
whole transaction as the command it is (R166, R167), and `encodeTransaction` writes them. -/

namespace Sys2Proof

/-- The table gives no row any bits: no word spells a command. -/
def decodeTableWord (_nbits _w : Nat) : Option Instr := none

/-- The command codes of Section 12.3, in its order. -/
def commandCodes : List Byte :=
  [0x01, 0x02, 0x10, 0x11, 0x12, 0x13, 0x14, 0x15, 0x20, 0x21, 0x22, 0x23,
    0x24, 0x25, 0x30, 0x31, 0x32, 0x33, 0x34, 0x35, 0x36, 0x40, 0x41, 0x42,
    0x43, 0x44, 0x50, 0x51, 0x52, 0x53, 0x54, 0x55, 0x56, 0x57, 0x58, 0x59,
    0x60, 0x61, 0x70, 0x71, 0x72, 0x73, 0x74, 0x75, 0x80, 0x81, 0x82, 0x83,
    0x84, 0x85, 0x86, 0x87, 0x90, 0x91, 0x92, 0x93, 0xA0, 0xA1, 0xA2, 0xA3,
    0xA4, 0xA5, 0xB0, 0xB1, 0xB2]

/-- The command a frame of code `code` is, for a code that enters the command slot. -/
def decodeCommand (code : Byte) (frame : HostFrame) : Instr :=
  match code.toNat with
  | 0x10 => .configureStore frame
  | 0x11 => .readStore frame
  | 0x12 => .lockVoyage frame
  | 0x13 => .endVoyage frame
  | 0x14 => .setDeck frame
  | 0x15 => .setLaneDecks frame
  | 0x20 => .issueCard frame
  | 0x21 => .reissueCard frame
  | 0x22 => .suspendCard frame
  | 0x23 => .restoreCard frame
  | 0x24 => .retireCard frame
  | 0x25 => .readCard frame
  | 0x30 => .enrolGuest frame
  | 0x31 => .amendGuest frame
  | 0x32 => .departGuest frame
  | 0x33 => .retireGuest frame
  | 0x34 => .lookupGuest frame
  | 0x35 => .readGuest frame
  | 0x36 => .findGuests frame
  | 0x40 => .setCabin frame
  | 0x41 => .setOverride frame
  | 0x42 => .clearOverride frame
  | 0x43 => .readOverrides frame
  | 0x44 => .readCabin frame
  | 0x50 => .openFolio frame
  | 0x51 => .amendFolio frame
  | 0x52 => .postPayment frame
  | 0x53 => .postCharge frame
  | 0x54 => .settleFolio frame
  | 0x55 => .readFolio frame
  | 0x56 => .setCurrency frame
  | 0x57 => .readCurrencies frame
  | 0x58 => .setOutlet frame
  | 0x59 => .readOutlet frame
  | 0x60 => .releaseFolioHolds frame
  | 0x61 => .readHold frame
  | 0x70 => .setGangway frame
  | 0x71 => .setPresence frame
  | 0x72 => .setTallyWatch frame
  | 0x73 => .setWatchGroups frame
  | 0x74 => .readTallies frame
  | 0x75 => .setStations frame
  | 0x80 => .setAlarmInput frame
  | 0x81 => .startMuster frame
  | 0x82 => .endMuster frame
  | 0x83 => .setLockdown frame
  | 0x84 => .clearLockdown frame
  | 0x85 => .stopCharging frame
  | 0x86 => .resumeCharging frame
  | 0x87 => .readModes frame
  | 0x90 => .setClock frame
  | 0x91 => .shiftLocalTime frame
  | 0x92 => .setRolloverMinute frame
  | 0x93 => .readClock frame
  | 0xA0 => .haltField frame
  | 0xA1 => .resumeField frame
  | 0xA2 => .addPost frame
  | 0xA3 => .removePost frame
  | 0xA4 => .readPosts frame
  | 0xA5 => .readLanes frame
  | 0xB0 => .setNotices frame
  | 0xB1 => .clearNotices frame
  | 0xB2 => .readNotices frame
  | _ => .unknownCommandFrame code frame

/-- A whole transaction of the command link, its bytes on SDI in order from the assertion of SEL to its
release: fewer than three bytes are a SHORT_TRANSACTION; STATUS and FETCH take every byte after the header as
one clocked out of the answer; any other code is a command frame (R166). -/
def decodeTransaction (sdi : List Byte) : Instr :=
  match sdi with
  | code :: tag :: length :: rest =>
    if code = 0x01 then .status ⟨tag, length, rest.length⟩
    else if code = 0x02 then .fetch ⟨tag, length, rest.length⟩
    else decodeCommand code ⟨tag, length, rest⟩
  | bytes => .shortTransaction bytes

/-- The command code and frame of a command that enters the command slot (Section 12.3); none for a transaction that
names no such command and for an event. -/
def Instr.hostFrame (i : Instr) : Option (Byte × HostFrame) :=
  match i with
  | .configureStore frame => some (0x10, frame)
  | .readStore frame => some (0x11, frame)
  | .lockVoyage frame => some (0x12, frame)
  | .endVoyage frame => some (0x13, frame)
  | .setDeck frame => some (0x14, frame)
  | .setLaneDecks frame => some (0x15, frame)
  | .issueCard frame => some (0x20, frame)
  | .reissueCard frame => some (0x21, frame)
  | .suspendCard frame => some (0x22, frame)
  | .restoreCard frame => some (0x23, frame)
  | .retireCard frame => some (0x24, frame)
  | .readCard frame => some (0x25, frame)
  | .enrolGuest frame => some (0x30, frame)
  | .amendGuest frame => some (0x31, frame)
  | .departGuest frame => some (0x32, frame)
  | .retireGuest frame => some (0x33, frame)
  | .lookupGuest frame => some (0x34, frame)
  | .readGuest frame => some (0x35, frame)
  | .findGuests frame => some (0x36, frame)
  | .setCabin frame => some (0x40, frame)
  | .setOverride frame => some (0x41, frame)
  | .clearOverride frame => some (0x42, frame)
  | .readOverrides frame => some (0x43, frame)
  | .readCabin frame => some (0x44, frame)
  | .openFolio frame => some (0x50, frame)
  | .amendFolio frame => some (0x51, frame)
  | .postPayment frame => some (0x52, frame)
  | .postCharge frame => some (0x53, frame)
  | .settleFolio frame => some (0x54, frame)
  | .readFolio frame => some (0x55, frame)
  | .setCurrency frame => some (0x56, frame)
  | .readCurrencies frame => some (0x57, frame)
  | .setOutlet frame => some (0x58, frame)
  | .readOutlet frame => some (0x59, frame)
  | .releaseFolioHolds frame => some (0x60, frame)
  | .readHold frame => some (0x61, frame)
  | .setGangway frame => some (0x70, frame)
  | .setPresence frame => some (0x71, frame)
  | .setTallyWatch frame => some (0x72, frame)
  | .setWatchGroups frame => some (0x73, frame)
  | .readTallies frame => some (0x74, frame)
  | .setAlarmInput frame => some (0x80, frame)
  | .startMuster frame => some (0x81, frame)
  | .setLockdown frame => some (0x83, frame)
  | .stopCharging frame => some (0x85, frame)
  | .endMuster frame => some (0x82, frame)
  | .clearLockdown frame => some (0x84, frame)
  | .resumeCharging frame => some (0x86, frame)
  | .setStations frame => some (0x75, frame)
  | .readModes frame => some (0x87, frame)
  | .setClock frame => some (0x90, frame)
  | .shiftLocalTime frame => some (0x91, frame)
  | .setRolloverMinute frame => some (0x92, frame)
  | .readClock frame => some (0x93, frame)
  | .haltField frame => some (0xA0, frame)
  | .resumeField frame => some (0xA1, frame)
  | .addPost frame => some (0xA2, frame)
  | .removePost frame => some (0xA3, frame)
  | .readPosts frame => some (0xA4, frame)
  | .readLanes frame => some (0xA5, frame)
  | .setNotices frame => some (0xB0, frame)
  | .clearNotices frame => some (0xB1, frame)
  | .readNotices frame => some (0xB2, frame)
  | .coldStart => none
  | .warmStart => none
  | .scrubComplete => none
  | .shortTransaction _ => none
  | .unknownCommandFrame _ _ => none
  | .status _ => none
  | .fetch _ => none
  | .requestFrame _ _ => none
  | .replyFrameComplete _ => none
  | .entry _ => none
  | .privacy _ => none
  | .charge _ => none
  | .balance _ => none
  | .authorise _ => none
  | .complete _ => none
  | .void _ => none
  | .gate _ => none
  | .muster _ => none
  | .alarmLevelChange _ _ => none
  | .qualifiedAssertion _ => none
  | .qualifiedRelease _ => none
  | .secondArrival => none
  | .minuteTick => none
  | .holdLapse => none

/-- The bytes of a command frame's transaction (Section 11.1). -/
def HostFrame.transaction (code : Byte) (f : HostFrame) : List Byte := code :: f.tag :: f.length :: f.payload

/-- The bytes on SDI of the link transaction that a command stands for, the host shifting in 0x00 while it reads an
answer; none for a start, a lane event or an event of the part itself. -/
def encodeTransaction (i : Instr) : Option (List Byte) :=
  match i with
  | .shortTransaction bytes => some bytes
  | .status r => some (HostFrame.transaction 0x01 ⟨r.tag, r.length, List.replicate r.clocked 0⟩)
  | .fetch r => some (HostFrame.transaction 0x02 ⟨r.tag, r.length, List.replicate r.clocked 0⟩)
  | .unknownCommandFrame code frame => some (frame.transaction code)
  | i => i.hostFrame.map (fun x => x.2.transaction x.1)

end Sys2Proof
end

