-- ==== Sys2Proof/Machine/Links.lean ====
section
/-! DEFINITION. The command link and the notice unit (Chapter 11): STATUS, FETCH, the transactions that name no command, and
SET_NOTICES, CLEAR_NOTICES and READ_NOTICES. -/

namespace Sys2Proof.Machine

def cmdSetNotices : Command := ⟨0xB0, 5, .operation⟩
def cmdClearNotices : Command := ⟨0xB1, 2, .operation⟩
def cmdReadNotices : Command := ⟨0xB2, 0, .operation⟩

/-! ### Transactions -/

/-- SHORT_TRANSACTION: fewer than three whole bytes have no effect (R166). -/
def execShortTransaction (_ : List Byte) (s : State) : Host.Outcome State Fault Refusal := .next s

/-- The result of a command frame whose code names no command: tests 1 and 2 of R167. -/
def unknownResult (f : HostFrame) : Result := if frameSized f then .unknownCommand else .badFrame

/-- A command frame whose code names no command (R167, R168). -/
def unknownCommand (code : Byte) (f : HostFrame) (s : State) : State :=
  match s.link.slot with
  | .empty => s.respond code f (unknownResult f) []
  | .scrubbing _ => s.discard f
  | .ready _ => s.discard f

/-- UNKNOWN_COMMAND_FRAME (R167). A code that names a command is no such frame (log entry 5). -/
def execUnknownCommandFrame (code : Byte) (f : HostFrame) (s : State) : Host.Outcome State Fault Refusal :=
  .next (if commandCodes.contains code then s else unknownCommand code f s)

/-- The slot state as sent (Section 12.3). -/
def CommandSlot.position (x : CommandSlot) : Nat :=
  match x with
  | .empty => 0
  | .scrubbing _ => 1
  | .ready _ => 2

/-- The command code and tag held in the slot, or 0 and 0 (Section 12.3). -/
def CommandSlot.held (x : CommandSlot) : List Byte :=
  match x with
  | .empty => [0, 0]
  | .scrubbing none => [0, 0]
  | .scrubbing (some r) => [r.code, r.tag]
  | .ready r => [r.code, r.tag]

/-- The lane bits of LANE_FAULT in bits 0 to 3 and the input bits of ALARM_LINE in bits 4 to 7. -/
def NoticeUnit.detail (u : NoticeUnit) : Byte := u.inputBits ++ u.laneBits

/-- Byte 1 of the STATUS answer. Section 12.3 gives bits 0 to 4; that bits 5 to 7 are 0 is the model's choice (log
entry 41). -/
def State.statusBits (s : State) : Byte :=
  (0 : BitVec 3) ++ BitVec.ofBool s.notice.atn1 ++ BitVec.ofBool s.notice.atn0 ++ BitVec.ofBool s.clock.running
    ++ BitVec.ofBool s.field.running ++ BitVec.ofBool s.scrubbing

/-- The ten bytes of the STATUS answer (R170, Section 12.3). -/
def State.statusAnswer (s : State) : List Byte :=
  eEnum partStates s.store.part ++ [s.statusBits] ++ e8 s.link.slot.position ++ s.link.slot.held
    ++ eMask s.notice.flags ++ [s.notice.detail] ++ eWord s.tally.groupPending

/-- The bytes that the host clocks out of an answer: beyond its end they are 0x00 (R175). -/
def clockedOut (answer : List Byte) (n : Nat) : List Byte := answer.take n ++ filler (n - answer.length)

/-- STATUS (R166, R170). -/
def execStatus (x : Readout) (s : State) : Host.Outcome State Fault Refusal :=
  .next (s.drive (clockedOut s.statusAnswer x.clocked))

/-- The PENDING answer of FETCH (R169, Section 12.3). -/
def CommandSlot.pendingAnswer (x : CommandSlot) : List Byte := [0x02, 0, 0xFF, 1] ++ e8 x.position

/-- FETCH (R169). -/
def fetch (x : Readout) (s : State) : State :=
  match s.link.slot with
  | .ready r =>
    let t := s.drive (clockedOut r.bytes x.clocked)
    if r.bytes.length ≤ x.clocked then t.withLink { t.link with slot := .empty } else t
  | .empty => s.drive (clockedOut s.link.slot.pendingAnswer x.clocked)
  | .scrubbing _ => s.drive (clockedOut s.link.slot.pendingAnswer x.clocked)

def execFetch (x : Readout) (s : State) : Host.Outcome State Fault Refusal := .next (fetch x s)

/-! ### Notices -/

/-- SET_NOTICES (R173). -/
def setNotices (p : List Byte) (s : State) : Verdict (State × List Byte) := do
  let a := readSetNotices p
  let routing ← need a.routing .range
  let polarity0 ← need a.polarity0 .range
  let polarity1 ← need a.polarity1 .range
  return (s.withNotice
      { s.notice with enables := a.enables, routing := routing, polarity0 := polarity0, polarity1 := polarity1 },
    eMask a.enables ++ eEnum routings routing ++ eEnum polarities polarity0 ++ eEnum polarities polarity1)

/-- CLEAR_NOTICES (R172); naming WATCH_PASS, it has the tally unit clear its pending flags (R128).
The flags that the response carries stand as the clearing leaves them, before the COMMAND_DONE of this response is
raised (log entry 39). -/
def clearNotices (p : List Byte) (s : State) : Verdict (State × List Byte) :=
  let mask := mask13 p 0
  let t := s.withNotice (s.notice.clear mask)
  .ok (if mask.getLsbD (noticeBit .watchPass) then t.withTally { t.tally with groupPending := 0 } else t,
    eMask t.notice.flags)

/-- READ_NOTICES (R172). The detail bits are laid out as in STATUS (log entry 24). The flags and the levels are those
before the COMMAND_DONE of this response is raised (log entry 39). -/
def readNotices (_ : List Byte) (s : State) : Verdict (State × List Byte) :=
  let u := s.notice
  .ok (s,
    eMask u.flags ++ [u.detail] ++ eWord s.tally.groupPending ++ eMask u.enables ++ eEnum routings u.routing
      ++ eEnum polarities u.polarity0 ++ eEnum polarities u.polarity1 ++ eMark u.atn0 ++ eMark u.atn1)

def execSetNotices (f : HostFrame) (s : State) : Host.Outcome State Fault Refusal :=
  .next (hostCommand cmdSetNotices f setNotices s)

def execClearNotices (f : HostFrame) (s : State) : Host.Outcome State Fault Refusal :=
  .next (hostCommand cmdClearNotices f clearNotices s)

def execReadNotices (f : HostFrame) (s : State) : Host.Outcome State Fault Refusal :=
  .next (hostCommand cmdReadNotices f readNotices s)

end Sys2Proof.Machine
end

