-- ==== Sys2Proof/Machine/Modes.lean ====
section
/-! DEFINITION. The mode unit (Chapter 8): the alarm inputs and their qualification, the commands that set and clear the
three modes, SET_ALARM_INPUT and READ_MODES. -/

namespace Sys2Proof.Machine

def cmdSetAlarmInput : Command := ⟨0x80, 4, .structural⟩
def cmdStartMuster : Command := ⟨0x81, 0, .operation⟩
def cmdEndMuster : Command := ⟨0x82, 0, .operation⟩
def cmdSetLockdown : Command := ⟨0x83, 0, .operation⟩
def cmdClearLockdown : Command := ⟨0x84, 0, .operation⟩
def cmdStopCharging : Command := ⟨0x85, 0, .operation⟩
def cmdResumeCharging : Command := ⟨0x86, 0, .operation⟩
def cmdReadModes : Command := ⟨0x87, 0, .operation⟩

/-! ### Alarm inputs -/

def State.inputAt (s : State) (n : Fin 4) : AlarmInput := cell s.mode.inputs n

def State.putInput (s : State) (n : Fin 4) (x : AlarmInput) : State :=
  s.withMode { s.mode with inputs := putCell s.mode.inputs n x }

/-- An enabled input starts a qualification interval; a disabled one is not qualified (R132, R134). -/
def AlarmInput.restart (x : AlarmInput) : AlarmInput := { x with interval := if x.enabled then some 0 else none }

/-- The level on a line changes: an enabled input starts its interval again from the new level (R132). -/
def AlarmInput.changeLevel (x : AlarmInput) (level : Level) : AlarmInput :=
  if x.line = level then x else { x with line := level }.restart

/-- The line is at the input's active level. -/
abbrev AlarmInput.atActive (x : AlarmInput) : Prop := x.line = x.active

/-- A qualification interval is in progress. -/
abbrev AlarmInput.qualifying (x : AlarmInput) : Prop := x.enabled = true ∧ x.interval.isSome = true

/-- The interval of an input may end in a qualified assertion (R132, R134). -/
abbrev AlarmInput.mayAssert (x : AlarmInput) : Prop :=
  x.qualifying ∧ x.atActive ∧ (x.asserted = false ∨ x.fresh = true)

/-- The interval of an input may end in a qualified release (R132, R134). -/
abbrev AlarmInput.mayRelease (x : AlarmInput) : Prop := x.qualifying ∧ ¬ x.atActive ∧ x.asserted = true

/-- An interval ends with the qualified state given. -/
def AlarmInput.qualified (x : AlarmInput) (asserted : Bool) : AlarmInput :=
  { x with asserted := asserted, interval := none, fresh := false }

/-- The mode unit acts on an input's role at a qualified assertion (R133). -/
def State.requestMode (s : State) (r : Role) : State :=
  match r with
  | .muster => if s.mode.muster then s else s.startMuster
  | .lockdown => s.withMode { s.mode with lockdown := true }
  | .chargeStop => s.withMode { s.mode with charging := true }
  | .none => s

/-- A qualified assertion (R132, R133). -/
def State.assertInput (s : State) (n : Fin 4) : State :=
  ((s.putInput n ((s.inputAt n).qualified true)).requestMode (s.inputAt n).role).raiseAlarmLine n

/-- A qualified release (R132, R133). -/
def State.releaseInput (s : State) (n : Fin 4) : State := s.putInput n ((s.inputAt n).qualified false)

/-- ALARM_LEVEL_CHANGE (R132). -/
def execAlarmLevelChange (n : Fin 4) (level : Level) (s : State) : Host.Outcome State Fault Refusal :=
  .next (s.putInput n ((s.inputAt n).changeLevel level))

/-- QUALIFIED_ASSERTION (R132 to R134). An input that may take none takes none (log entry 5). -/
def execQualifiedAssertion (n : Fin 4) (s : State) : Host.Outcome State Fault Refusal :=
  .next (if (s.inputAt n).mayAssert then s.assertInput n else s)

/-- QUALIFIED_RELEASE (R132 to R134). An input that may take none takes none (log entry 5). -/
def execQualifiedRelease (n : Fin 4) (s : State) : Host.Outcome State Fault Refusal :=
  .next (if (s.inputAt n).mayRelease then s.releaseInput n else s)

/-- An alarm input's configuration and qualified state as sent (R131). -/
def eInput (x : AlarmInput) : List Byte :=
  eFirst x.enabled ++ eEnum levels x.active ++ eEnum roles x.role ++ e8 (if x.asserted then 1 else 0)

/-- SET_ALARM_INPUT (R131, R134). -/
def setAlarmInput (p : List Byte) (s : State) : Verdict (State × List Byte) := do
  let a := readSetAlarmInput p
  let n ← need (asFin 4 a.input) .range
  let enabled ← need a.enabled .range
  let active ← need a.active .range
  let role ← need a.role .range
  let x := { s.inputAt n with
    enabled := enabled, active := active, role := role, asserted := false, fresh := false }.restart
  return (s.putInput n x, eInput x)

/-! ### Modes -/

/-- START_MUSTER (R136): STARTED at position 0, ALREADY_ACTIVE at position 1, and the epoch. During a scrub the frame is
discarded before it comes here (log entry 43). -/
def startMusterCommand (_ : List Byte) (s : State) : Verdict (State × List Byte) :=
  if s.mode.muster then .ok (s, e8 1 ++ e8 s.tally.epoch)
  else .ok (s.startMuster, e8 0 ++ e8 s.startMuster.tally.epoch)

/-- SET_LOCKDOWN (R136). -/
def setLockdown (_ : List Byte) (s : State) : Verdict (State × List Byte) :=
  .ok (s.withMode { s.mode with lockdown := true }, [])

/-- STOP_CHARGING (R136). -/
def stopCharging (_ : List Byte) (s : State) : Verdict (State × List Byte) :=
  .ok (s.withMode { s.mode with charging := true }, [])

/-- The enabled alarm inputs of a role that are ASSERTED (R137), in rising input number: the rule gives no order to the
numbers that a LINE_ACTIVE refusal carries, and the model takes this one (log entry 38). -/
def State.claims (s : State) (r : Role) : List (Fin 4) :=
  (List.finRange 4).filter (fun n =>
    (s.inputAt n).enabled && (s.inputAt n).role == r && (s.inputAt n).asserted)

/-- Test 1 of the clear commands; the refusal carries the numbers of the inputs (R137), after a count of two
bytes (log entry 25) and in rising order (log entry 38). -/
def State.lineTest (s : State) (r : Role) : Verdict Unit :=
  if s.claims r = [] then .ok () else .error (.lineActive, eList (fun n => e8 n.val) (s.claims r))

/-- The end of a muster (R144). -/
def State.endMuster (s : State) : State :=
  let t := s.withMode { s.mode with muster := false }
  (t.withTally { t.tally with unmustered := Vector.replicate 16 0, complete := false }).evaluateWatches s.tally

/-- END_MUSTER (R137, R144). -/
def endMusterCommand (_ : List Byte) (s : State) : Verdict (State × List Byte) := do
  s.lineTest .muster
  return (if s.mode.muster then s.endMuster else s, [])

/-- CLEAR_LOCKDOWN (R137). -/
def clearLockdown (_ : List Byte) (s : State) : Verdict (State × List Byte) := do
  s.lineTest .lockdown
  return (s.withMode { s.mode with lockdown := false }, [])

/-- RESUME_CHARGING (R137). -/
def resumeCharging (_ : List Byte) (s : State) : Verdict (State × List Byte) := do
  s.lineTest .chargeStop
  return (s.withMode { s.mode with charging := false }, [])

/-- An alarm input in READ_MODES: configuration, qualified state, level of the line, interval in progress (R145). -/
def eInputRead (x : AlarmInput) : List Byte := eInput x ++ eEnum levels x.line ++ eMark x.interval.isSome

/-- READ_MODES (R145). -/
def readModes (_ : List Byte) (s : State) : Verdict (State × List Byte) :=
  .ok (s,
    eFirst s.mode.muster ++ eFirst s.mode.lockdown ++ eFirst s.mode.charging
      ++ s.mode.inputs.toList.flatMap eInputRead
      ++ e8 s.tally.epoch ++ e8 (if s.tally.complete then 0 else 1) ++ eWord s.tally.stations)

def execSetAlarmInput (f : HostFrame) (s : State) : Host.Outcome State Fault Refusal :=
  .next (hostCommand cmdSetAlarmInput f setAlarmInput s)

def execStartMuster (f : HostFrame) (s : State) : Host.Outcome State Fault Refusal :=
  .next (hostCommand cmdStartMuster f startMusterCommand s)

def execEndMuster (f : HostFrame) (s : State) : Host.Outcome State Fault Refusal :=
  .next (hostCommand cmdEndMuster f endMusterCommand s)

def execSetLockdown (f : HostFrame) (s : State) : Host.Outcome State Fault Refusal :=
  .next (hostCommand cmdSetLockdown f setLockdown s)

def execClearLockdown (f : HostFrame) (s : State) : Host.Outcome State Fault Refusal :=
  .next (hostCommand cmdClearLockdown f clearLockdown s)

def execStopCharging (f : HostFrame) (s : State) : Host.Outcome State Fault Refusal :=
  .next (hostCommand cmdStopCharging f stopCharging s)

def execResumeCharging (f : HostFrame) (s : State) : Host.Outcome State Fault Refusal :=
  .next (hostCommand cmdResumeCharging f resumeCharging s)

def execReadModes (f : HostFrame) (s : State) : Host.Outcome State Fault Refusal :=
  .next (hostCommand cmdReadModes f readModes s)

end Sys2Proof.Machine
end

