-- ==== Sys2Proof/Machine/Starts.lean ====
section
/-! DEFINITION. The two starts (R16, R17 and the start columns of every chapter). -/

namespace Sys2Proof.Machine

/-- The alarm inputs of a cold start: cold values, each line at the level its panel drives. -/
def State.coldInputs (s : State) : Vector AlarmInput 4 := s.mode.inputs.map (fun x => AlarmInput.cold x.line)

/-- A cold start (R16): the reset state, with the levels of the alarm lines, the waiting commands and the model's
counter of free values as they were (log entry 16). -/
def State.coldStart (s : State) : State :=
  { State.reset.withMode { State.reset.mode with inputs := s.coldInputs } with
    draws := s.draws, pending := s.pending }

def execColdStart (s : State) : Host.Outcome State Fault Refusal := .next s.coldStart

/-- An alarm input at a warm start: its qualification restarts, the first level that completes is treated as R134
gives. -/
def AlarmInput.warm (x : AlarmInput) : AlarmInput := { x.restart with fresh := x.enabled }

/-- The command slot after a warm start: SCRUBBING without a response when a scrub is restarted, otherwise EMPTY
(R17, R174). -/
def warmSlot (scrubbing : Bool) : CommandSlot := if scrubbing then .scrubbing none else .empty

/-- A warm start (R17, R134, R147, R155, R165, R174). -/
def State.warmStart (s : State) : State :=
  let t := s.withStore { s.store with scrub := s.store.scrub.map (fun _ => 0) }
  let t := t.withMode { t.mode with inputs := t.mode.inputs.map AlarmInput.warm }
  let t := t.withClock { t.clock with running := false }
  let t := t.withField { t.field with lanes := Vector.replicate 4 Lane.cold, running := false }
  let t := t.withLink ⟨warmSlot s.scrubbing, []⟩
  (t.withNotice NoticeUnit.cold).raise .clockStopped

def execWarmStart (s : State) : Host.Outcome State Fault Refusal := .next s.warmStart

end Sys2Proof.Machine
end

