-- ==== Sys2Proof/Machine/Tallies.lean ====
section
/-! DEFINITION. The tally unit (Chapters 7 and 8): the decisions of GATE and MUSTER, and SET_GANGWAY, SET_PRESENCE,
SET_TALLY_WATCH, SET_WATCH_GROUPS, READ_TALLIES and SET_STATIONS. -/

namespace Sys2Proof.Machine

def cmdSetGangway : Command := ⟨0x70, 6, .operation⟩
def cmdSetPresence : Command := ⟨0x71, 3, .record⟩
def cmdSetTallyWatch : Command := ⟨0x72, 7, .operation⟩
def cmdSetWatchGroups : Command := ⟨0x73, 2, .operation⟩
def cmdReadTallies : Command := ⟨0x74, 0, .operation⟩
def cmdSetStations : Command := ⟨0x75, 2, .operation⟩

/-- A gangway as sent: its state and its guard interval. -/
def eGangway (g : Gangway) : List Byte := eEnum gangwayStates g.state ++ e16 g.guard

/-- SET_GANGWAY (R118). -/
def setGangway (p : List Byte) (s : State) : Verdict (State × List Byte) := do
  let a := readSetGangway p
  let n ← need (asFin 8 a.gangway) .range
  let state ← need a.state .range
  let guard ← need a.guard.changeable .range
  let g := cell s.tally.gangways n
  let g' : Gangway := ⟨state.getD g.state, (guard.map (min · 255)).getD g.guard⟩
  return (s.withTally { s.tally with gangways := putCell s.tally.gangways n g' }, eGangway g')

/-- SET_PRESENCE (R125). -/
def setPresence (p : List Byte) (s : State) : Verdict (State × List Byte) := do
  let q ← need (enumAt presences p 2) .range
  check (q ≠ .departed) .range
  let k := u16 p 0
  let g ← need (s.namedGuest k) .notFound
  check (g.presence ≠ .departed) .wrongState
  if g.presence = q then return (s, eEnum presences q)
  else return ((s.movePresence k g q).evaluateWatches s.tally, eEnum presences q)

def State.putWatch (s : State) (n : Fin 2) (w : Watch) : State :=
  s.withTally { s.tally with watches := putCell s.tally.watches n w }

/-- The arming of a tally watch (R127): FIRED at position 0 where the source is at the value, otherwise ARMED at
position 1 with the source's present value. -/
def State.armWatch (s : State) (n : Fin 2) (w : Watch) : State × List Byte :=
  if s.tally.sourceCount w = w.value then
    ((s.putWatch n { w with armed := false }).raise (watchNotice n), e8 0)
  else (s.putWatch n { w with armed := true }, e8 1 ++ e16 (s.tally.sourceCount w))

/-- SET_TALLY_WATCH (R127). The range test is taken for either action. -/
def setTallyWatch (p : List Byte) (s : State) : Verdict (State × List Byte) := do
  let a := readSetTallyWatch p
  let n ← need (asFin 2 a.watch) .range
  let arm ← need a.arm .range
  let source ← need a.source .range
  let station ← need (asFin 16 a.station) .range
  if arm then return s.armWatch n ⟨source, station, min a.value s.store.caps.guests, false⟩
  else return (s.putWatch n { cell s.tally.watches n with armed := false }, [])

/-- SET_WATCH_GROUPS (R128). -/
def setWatchGroups (p : List Byte) (s : State) : Verdict (State × List Byte) :=
  .ok (s.withTally { s.tally with groupEnable := word16 p 0 }, [])

/-- A tally watch as sent: source, station, value, armed flag, the source's present value (R129). -/
def Tally.eWatch (t : Tally) (w : Watch) : List Byte :=
  eEnum watchSources w.source ++ e16 w.station.val ++ e16 w.value ++ eMark w.armed ++ e16 (t.sourceCount w)

/-- READ_TALLIES (R129). -/
def readTallies (_ : List Byte) (s : State) : Verdict (State × List Byte) :=
  let t := s.tally
  .ok (s,
    e16 t.expected ++ e16 t.aboard ++ e16 t.ashore ++ e16 t.departed
      ++ e16 (t.expected + t.aboard + t.ashore + t.departed)
      ++ t.aboardAt.toList.flatMap e16 ++ t.unmustered.toList.flatMap e16
      ++ e8 t.epoch ++ eFirst s.mode.muster ++ eWord t.stations
      ++ t.gangways.toList.flatMap eGangway ++ t.watches.toList.flatMap t.eWatch
      ++ eWord t.groupEnable ++ eWord t.groupPending ++ e32 s.clock.voyage)

/-- SET_STATIONS (R140). -/
def setStations (p : List Byte) (s : State) : Verdict (State × List Byte) :=
  let t := s.withTally { s.tally with stations := word16 p 0 }
  .ok (if s.mode.muster then t.evaluateCompletion else t, eWord (word16 p 0))

/-! ### Decisions -/

/-- The intended move of a gate pass, from the post's direction and the guest's presence; `none` is DENY_PASSBACK
(R120). -/
def intendedMove (d : Direction) (p : Presence) : Option Presence :=
  match d, p with
  | .toggle, .expected => some .aboard
  | .toggle, .aboard => some .ashore
  | .toggle, .ashore => some .aboard
  | .outbound, .expected => none
  | .outbound, .aboard => some .ashore
  | .outbound, .ashore => none
  | .inbound, .expected => some .aboard
  | .inbound, .aboard => none
  | .inbound, .ashore => some .aboard
  | _, .departed => none

/-- Whether a gangway state passes a move to a presence (R120). -/
def GangwayState.passes (x : GangwayState) (q : Presence) : Bool :=
  match x with
  | .opened => true
  | .inboundOnly => q == .aboard
  | .closed => false

/-- The guard test (R122). -/
abbrev guardPasses (lastPass : Option Nat) (voyage guard : Nat) : Prop := ∀ l ∈ lastPass, guard ≤ voyage - l

/-- The guest of a card presented at a gate or a muster reader: resolution, class and departure (R119, R142). -/
def tallyGuest (card : Presentation) (s : State) : Decision (Nat × Guest) := do
  let c ← s.resolve card
  let x ← s.guestOf c
  test (x.2.presence ≠ .departed) .denyDeparted
  return x

/-- What the tests of a GATE request find: the guest and the presence of the intended move. -/
structure Passage where
  guestIndex : Nat
  guest      : Guest
  presence   : Presence
  deriving DecidableEq, Repr

/-- The tests of a GATE request (R119). -/
def gateTests (lane : Fin 4) (r : Request) (s : State) : Decision Passage := do
  test s.serving .unavailable
  let post ← demand (s.gateAt lane r.terminal) .denyPost
  test (s.mode.muster = false ∧ s.mode.lockdown = false) .denyMode
  let x ← tallyGuest (presentationAt r.payload 0) s
  let gangway := cell s.tally.gangways post.1
  test (guardPasses x.2.lastPass s.clock.voyage gangway.guard) .repeated
  match intendedMove post.2 x.2.presence with
  | none => .error (.denyPassback, eEnum presences x.2.presence)
  | some q =>
    if gangway.state.passes q then return ⟨x.1, x.2, q⟩ else .error (.denyClosed, eEnum presences x.2.presence)

/-- Step 3 of the pass: the watch group of the guest's station (R121, R128). -/
def State.markGroup (s : State) (g : Guest) : State :=
  if g.watch = true ∧ s.tally.groupEnable.getLsbD g.station.val = true then
    (s.withTally { s.tally with groupPending := s.tally.groupPending ||| bitOf 16 g.station.val }).raise .watchPass
  else s

/-- The gate pass (R121). -/
def State.passGate (s : State) (x : Passage) : State :=
  let g := { x.guest with lastPass := some s.clock.voyage }
  ((s.movePresence x.guestIndex g x.presence).markGroup x.guest).evaluateWatches s.tally

/-- The decision of a GATE request (R119 to R122). -/
def decideGate (lane : Fin 4) (r : Request) (s : State) : Decided :=
  decided s (do
    let x ← gateTests lane r s
    return ⟨s.passGate x, .passed, eEnum presences x.presence ++ e16 x.guestIndex⟩)

/-- Tests 1 to 6 of a MUSTER request: the reader's station and the guest (R142). -/
def musterTests (lane : Fin 4) (r : Request) (s : State) : Decision (Fin 16 × Nat × Guest) := do
  test s.serving .unavailable
  let station ← demand (s.readerAt lane r.terminal) .denyPost
  test (s.mode.muster = true) .denyMode
  let x ← tallyGuest (presentationAt r.payload 0) s
  return (station, x)

/-- Whether the presence calls for a correction: test 7 of R142. -/
def Presence.needsCorrection (p : Presence) : Bool :=
  match p with
  | .expected => true
  | .ashore => true
  | .aboard => false
  | .departed => false

/-- Test 7 of R142: the presence correction, where one is needed. -/
def State.correctAtReader (s : State) (k : Nat) (g : Guest) : State :=
  if g.presence.needsCorrection then s.correctPresence k g else s

/-- The mustering of a guest whose record is `g` (R143). -/
def State.musterGuest (s : State) (k : Nat) (g : Guest) : State :=
  let t := s.putGuest k { g with epoch := s.tally.epoch }
  ((t.withTally (t.tally.mapUnmustered g.station (· - 1))).evaluateCompletion).evaluateWatches s.tally

/-- Tests 7 to 9 of a MUSTER request (R142, R143). -/
def State.musterTap (s : State) (reader : Fin 16) (k : Nat) (g : Guest) : Decided :=
  let corrected := g.presence.needsCorrection
  let t := s.correctAtReader k g
  if g.epoch = s.tally.epoch then ⟨t, .alreadyMustered, e16 k ++ e16 g.station.val⟩
  else
    let g' := if corrected then { g with presence := .aboard } else g
    ⟨t.musterGuest k g', if reader = g.station then .mustered else .musteredElsewhere,
      e16 k ++ e16 g.station.val ++ eMark corrected⟩

/-- The decision of a MUSTER request (R142, R143). -/
def decideMuster (lane : Fin 4) (r : Request) (s : State) : Decided :=
  decided s (do
    let x ← musterTests lane r s
    return s.musterTap x.1 x.2.1 x.2.2)

def execSetGangway (f : HostFrame) (s : State) : Host.Outcome State Fault Refusal :=
  .next (hostCommand cmdSetGangway f setGangway s)

def execSetPresence (f : HostFrame) (s : State) : Host.Outcome State Fault Refusal :=
  .next (hostCommand cmdSetPresence f setPresence s)

def execSetTallyWatch (f : HostFrame) (s : State) : Host.Outcome State Fault Refusal :=
  .next (hostCommand cmdSetTallyWatch f setTallyWatch s)

def execSetWatchGroups (f : HostFrame) (s : State) : Host.Outcome State Fault Refusal :=
  .next (hostCommand cmdSetWatchGroups f setWatchGroups s)

def execReadTallies (f : HostFrame) (s : State) : Host.Outcome State Fault Refusal :=
  .next (hostCommand cmdReadTallies f readTallies s)

def execSetStations (f : HostFrame) (s : State) : Host.Outcome State Fault Refusal :=
  .next (hostCommand cmdSetStations f setStations s)

/-- GATE (R119, R158). -/
def execGate (lane : Fin 4) (s : State) : Host.Outcome State Fault Refusal :=
  .next (takeRequest .gate lane (decideGate lane) s)

/-- MUSTER (R142, R158). -/
def execMuster (lane : Fin 4) (s : State) : Host.Outcome State Fault Refusal :=
  .next (takeRequest .muster lane (decideMuster lane) s)

end Sys2Proof.Machine
end

