-- ==== Sys2Proof/Machine/Store.lean ====
section
/-! DEFINITION. The store controller (Chapter 1): CONFIGURE_STORE, READ_STORE, LOCK_VOYAGE, END_VOYAGE, SET_DECK, SET_LANE_DECKS
and the completion of a scrub. -/

namespace Sys2Proof.Machine

def cmdConfigureStore : Command := ⟨0x10, 8, .configure⟩
def cmdReadStore : Command := ⟨0x11, 0, .operation⟩
def cmdLockVoyage : Command := ⟨0x12, 0, .lock⟩
def cmdEndVoyage : Command := ⟨0x13, 0, .finish⟩
def cmdSetDeck : Command := ⟨0x14, 7, .structural⟩
def cmdSetLaneDecks : Command := ⟨0x15, 6, .structural⟩

def eCapacities (c : Capacities) : List Byte := e16 c.cabins ++ e16 c.guests ++ e16 c.folios ++ e16 c.cards

/-- A card slot that is IN_USE. -/
def CardSlot.isInUse (c : CardSlot) : Bool :=
  match c with
  | .retired => false
  | .inUse _ => true

/-- The records are empty: no guest ENROLLED, no card slot IN_USE, every folio FREE (R4). -/
def State.recordsEmpty (s : State) : Bool :=
  s.roster.guests.isEmpty && s.cards.slots.all (fun e => !e.2.isInUse) && s.folio.folios.isEmpty

/-- CONFIGURE_STORE (R4 to R7). -/
def configureStore (p : List Byte) (s : State) : Verdict (State × List Byte) := do
  check (s.store.part = .setup → s.recordsEmpty = true) .notEmpty
  let caps ← need (grantAll (readConfigureStore p)) .capacity
  let t := s.withStore
    { s.store with part := .setup, caps := caps, deckMap := Vector.replicate 20 DeckSlot.empty }
  return (t.scrub, eCapacities caps)

/-- A deck map slot in READ_STORE: deck number, first room, room count and base index (R3). -/
def eDeckSlot (st : Store) (k : Fin 20) : List Byte :=
  let d := cell st.deckMap k
  e16 d.deck ++ e16 d.first ++ e16 d.count ++ e16 (st.base k.val)

/-- READ_STORE (R3). The lane ranges go out as `eLaneRange` (log entry 36). -/
def readStore (_ : List Byte) (s : State) : Verdict (State × List Byte) :=
  .ok (s,
    eEnum partStates s.store.part ++ eMark s.scrubbing ++ eCapacities s.store.caps ++ e16 s.store.caps.units
      ++ e16 (Config.storeUnits - s.store.caps.units) ++ (List.finRange 20).flatMap (eDeckSlot s.store)
      ++ e16 s.store.cabinCount
      ++ (List.finRange 4).flatMap (fun n => eLaneRange s.draws (cell s.store.laneDecks n)))

/-- LOCK_VOYAGE (R10). -/
def lockVoyage (_ : List Byte) (s : State) : Verdict (State × List Byte) := do
  check (s.store.cabinCount ≠ 0) .notFound
  return (s.withStore { s.store with part := .inVoyage }, [])

/-- A hold slot that is ACTIVE. -/
def HoldSlot.isActive (h : HoldSlot) : Bool :=
  match h.status with
  | .free => false
  | .active _ => true
  | .lapsed _ => false

/-- A guest that stops END_VOYAGE (test 3 of R11). -/
def Guest.isUnderway (g : Guest) : Bool := g.presence == .aboard || g.presence == .ashore

/-- END_VOYAGE (R11). -/
def endVoyage (_ : List Byte) (s : State) : Verdict (State × List Byte) := do
  check (s.folio.folios.all (fun e => e.2.state == .closed) = true) .unsettled
  check (s.roster.guests.all (fun e => !e.2.isUnderway) = true) .aboard
  check (s.hold.slots.all (fun e => !e.2.isActive) = true) .holdsPending
  check (s.mode.muster = false) .mode
  return ((s.withStore { s.store with part := .setup }).scrub, [])

/-- The slot value SET_DECK writes: a room count of 0 empties the slot (R13). -/
def SetDeckFields.value (a : SetDeckFields) : DeckSlot :=
  if a.count = 0 then DeckSlot.empty else ⟨a.deck, a.first, a.count⟩

/-- SET_DECK (R13). -/
def setDeck (p : List Byte) (s : State) : Verdict (State × List Byte) := do
  let a := readSetDeck p
  let k ← need (asFin 20 a.slot) .range
  check (a.count ≤ 999 ∧ (a.count ≠ 0 → 1 ≤ a.deck ∧ a.deck ≤ 20 ∧ a.first + a.count ≤ 1000)) .range
  check (s.roster.guests.isEmpty = true) .notEmpty
  check ((List.finRange 8).all (fun i => !((cell s.cabin.overrides i).any Override.enable)) = true) .locked
  check (a.count ≠ 0 → (List.finRange 20).all (fun i =>
    i == k || (cell s.store.deckMap i).count == 0 || (cell s.store.deckMap i).deck != a.deck) = true) .duplicate
  let store := { s.store with deckMap := putCell s.store.deckMap k a.value }
  check (store.cabinCount ≤ s.store.caps.cabins) .capacity
  return ((s.withStore store).withCabin { s.cabin with cabins := [] }, [])

/-- SET_LANE_DECKS (R15). -/
def setLaneDecks (p : List Byte) (s : State) : Verdict (State × List Byte) := do
  let a := readSetLaneDecks p
  let n ← need (asFin 4 a.lane) .range
  check (a.low ≤ 20 ∧ a.high ≤ 20 ∧ (a.low = 0 ↔ a.high = 0) ∧ a.low ≤ a.high) .range
  let range := if a.low = 0 then none else some ⟨a.low, a.high⟩
  return (s.withStore { s.store with laneDecks := putCell s.store.laneDecks n range }, [])

def execConfigureStore (f : HostFrame) (s : State) : Host.Outcome State Fault Refusal :=
  .next (scrubCommand cmdConfigureStore f configureStore s)

def execReadStore (f : HostFrame) (s : State) : Host.Outcome State Fault Refusal :=
  .next (hostCommand cmdReadStore f readStore s)

def execLockVoyage (f : HostFrame) (s : State) : Host.Outcome State Fault Refusal :=
  .next (hostCommand cmdLockVoyage f lockVoyage s)

def execEndVoyage (f : HostFrame) (s : State) : Host.Outcome State Fault Refusal :=
  .next (scrubCommand cmdEndVoyage f endVoyage s)

def execSetDeck (f : HostFrame) (s : State) : Host.Outcome State Fault Refusal :=
  .next (hostCommand cmdSetDeck f setDeck s)

def execSetLaneDecks (f : HostFrame) (s : State) : Host.Outcome State Fault Refusal :=
  .next (hostCommand cmdSetLaneDecks f setLaneDecks s)

/-- The scrub in flight completes (R9, R168): SCRUBBING clears; the withheld response becomes fetchable with
COMMAND_DONE, or the slot becomes EMPTY when a warm start had restarted the scrub. -/
def State.completeScrub (s : State) : State :=
  let s := s.withStore { s.store with scrub := none }
  match s.link.slot with
  | .scrubbing (some r) => (s.withLink { s.link with slot := .ready r }).raise .commandDone
  | .scrubbing none => s.withLink { s.link with slot := .empty }
  | .empty => s
  | .ready _ => s

/-- SCRUB_COMPLETE (R9). With no scrub in flight there is no completion (log entry 5). -/
def execScrubComplete (s : State) : Host.Outcome State Fault Refusal :=
  .next (if s.scrubbing then s.completeScrub else s)

end Sys2Proof.Machine
end

