-- ==== Sys2Proof/Machine/Ticks.lean ====
section
/-! DEFINITION. One period of the time-base input, which is what the part does when no command waits: the counts towards the
next second arrival, the qualification of each alarm input, the scrub (R9, R132, R148; log entries 17 and
18). -/

namespace Sys2Proof.Machine

/-- The ship clock's period: the last of 32,768 is a second arrival (R148). -/
def State.tickClock (s : State) : State :=
  if s.clock.running then
    if s.clock.phase + 1 < Config.secondPeriods then s.withClock { s.clock with phase := s.clock.phase + 1 }
    else s.arriveSecond
  else s

/-- The end of an input's interval: an assertion, a release, or no event (R132, R134). -/
def State.qualifyInput (s : State) (n : Fin 4) : State :=
  if (s.inputAt n).mayAssert then s.assertInput n
  else if (s.inputAt n).mayRelease then s.releaseInput n
  else s.putInput n ((s.inputAt n).qualified (s.inputAt n).asserted)

/-- An alarm input's period (R132). -/
def State.tickInput (s : State) (n : Fin 4) : State :=
  match (s.inputAt n).interval with
  | none => s
  | some k =>
    if k + 1 < Config.qualifyPeriods then s.putInput n { s.inputAt n with interval := some (k + 1) }
    else s.qualifyInput n

/-- The scrub's period (R9). -/
def State.tickScrub (s : State) : State :=
  match s.store.scrub with
  | none => s
  | some k =>
    if k + 1 < Config.scrubPeriods then s.withStore { s.store with scrub := some (k + 1) } else s.completeScrub

/-- One period of the time base: the clock, the inputs in ascending order, the scrub. -/
def State.tick (s : State) : State :=
  ((List.finRange 4).foldl State.tickInput s.tickClock).tickScrub

end Sys2Proof.Machine
end

