-- ==== Sys2Proof/Machine/Dispatch.lean ====
section
/-! DEFINITION. One arm per command: each is one call of its meaning. -/

namespace Sys2Proof.Machine

def exec (i : Instr) (s : State) : Host.Outcome State Fault Refusal :=
  match i with
  | .coldStart => Sys2Proof.Machine.execColdStart s
  | .warmStart => Sys2Proof.Machine.execWarmStart s
  | .scrubComplete => Sys2Proof.Machine.execScrubComplete s
  | .shortTransaction bytes => Sys2Proof.Machine.execShortTransaction bytes s
  | .unknownCommandFrame code frame => Sys2Proof.Machine.execUnknownCommandFrame code frame s
  | .status readout => Sys2Proof.Machine.execStatus readout s
  | .fetch readout => Sys2Proof.Machine.execFetch readout s
  | .configureStore frame => Sys2Proof.Machine.execConfigureStore frame s
  | .readStore frame => Sys2Proof.Machine.execReadStore frame s
  | .lockVoyage frame => Sys2Proof.Machine.execLockVoyage frame s
  | .endVoyage frame => Sys2Proof.Machine.execEndVoyage frame s
  | .setDeck frame => Sys2Proof.Machine.execSetDeck frame s
  | .setLaneDecks frame => Sys2Proof.Machine.execSetLaneDecks frame s
  | .issueCard frame => Sys2Proof.Machine.execIssueCard frame s
  | .reissueCard frame => Sys2Proof.Machine.execReissueCard frame s
  | .suspendCard frame => Sys2Proof.Machine.execSuspendCard frame s
  | .restoreCard frame => Sys2Proof.Machine.execRestoreCard frame s
  | .retireCard frame => Sys2Proof.Machine.execRetireCard frame s
  | .readCard frame => Sys2Proof.Machine.execReadCard frame s
  | .enrolGuest frame => Sys2Proof.Machine.execEnrolGuest frame s
  | .amendGuest frame => Sys2Proof.Machine.execAmendGuest frame s
  | .departGuest frame => Sys2Proof.Machine.execDepartGuest frame s
  | .retireGuest frame => Sys2Proof.Machine.execRetireGuest frame s
  | .lookupGuest frame => Sys2Proof.Machine.execLookupGuest frame s
  | .readGuest frame => Sys2Proof.Machine.execReadGuest frame s
  | .findGuests frame => Sys2Proof.Machine.execFindGuests frame s
  | .setCabin frame => Sys2Proof.Machine.execSetCabin frame s
  | .setOverride frame => Sys2Proof.Machine.execSetOverride frame s
  | .clearOverride frame => Sys2Proof.Machine.execClearOverride frame s
  | .readOverrides frame => Sys2Proof.Machine.execReadOverrides frame s
  | .readCabin frame => Sys2Proof.Machine.execReadCabin frame s
  | .openFolio frame => Sys2Proof.Machine.execOpenFolio frame s
  | .amendFolio frame => Sys2Proof.Machine.execAmendFolio frame s
  | .postPayment frame => Sys2Proof.Machine.execPostPayment frame s
  | .postCharge frame => Sys2Proof.Machine.execPostCharge frame s
  | .settleFolio frame => Sys2Proof.Machine.execSettleFolio frame s
  | .readFolio frame => Sys2Proof.Machine.execReadFolio frame s
  | .setCurrency frame => Sys2Proof.Machine.execSetCurrency frame s
  | .readCurrencies frame => Sys2Proof.Machine.execReadCurrencies frame s
  | .setOutlet frame => Sys2Proof.Machine.execSetOutlet frame s
  | .readOutlet frame => Sys2Proof.Machine.execReadOutlet frame s
  | .releaseFolioHolds frame => Sys2Proof.Machine.execReleaseFolioHolds frame s
  | .readHold frame => Sys2Proof.Machine.execReadHold frame s
  | .setGangway frame => Sys2Proof.Machine.execSetGangway frame s
  | .setPresence frame => Sys2Proof.Machine.execSetPresence frame s
  | .setTallyWatch frame => Sys2Proof.Machine.execSetTallyWatch frame s
  | .setWatchGroups frame => Sys2Proof.Machine.execSetWatchGroups frame s
  | .readTallies frame => Sys2Proof.Machine.execReadTallies frame s
  | .setAlarmInput frame => Sys2Proof.Machine.execSetAlarmInput frame s
  | .startMuster frame => Sys2Proof.Machine.execStartMuster frame s
  | .setLockdown frame => Sys2Proof.Machine.execSetLockdown frame s
  | .stopCharging frame => Sys2Proof.Machine.execStopCharging frame s
  | .endMuster frame => Sys2Proof.Machine.execEndMuster frame s
  | .clearLockdown frame => Sys2Proof.Machine.execClearLockdown frame s
  | .resumeCharging frame => Sys2Proof.Machine.execResumeCharging frame s
  | .setStations frame => Sys2Proof.Machine.execSetStations frame s
  | .readModes frame => Sys2Proof.Machine.execReadModes frame s
  | .setClock frame => Sys2Proof.Machine.execSetClock frame s
  | .shiftLocalTime frame => Sys2Proof.Machine.execShiftLocalTime frame s
  | .setRolloverMinute frame => Sys2Proof.Machine.execSetRolloverMinute frame s
  | .readClock frame => Sys2Proof.Machine.execReadClock frame s
  | .haltField frame => Sys2Proof.Machine.execHaltField frame s
  | .resumeField frame => Sys2Proof.Machine.execResumeField frame s
  | .addPost frame => Sys2Proof.Machine.execAddPost frame s
  | .removePost frame => Sys2Proof.Machine.execRemovePost frame s
  | .readPosts frame => Sys2Proof.Machine.execReadPosts frame s
  | .readLanes frame => Sys2Proof.Machine.execReadLanes frame s
  | .setNotices frame => Sys2Proof.Machine.execSetNotices frame s
  | .clearNotices frame => Sys2Proof.Machine.execClearNotices frame s
  | .readNotices frame => Sys2Proof.Machine.execReadNotices frame s
  | .requestFrame lane bytes => Sys2Proof.Machine.execRequestFrame lane bytes s
  | .replyFrameComplete lane => Sys2Proof.Machine.execReplyFrameComplete lane s
  | .entry lane => Sys2Proof.Machine.execEntry lane s
  | .privacy lane => Sys2Proof.Machine.execPrivacy lane s
  | .charge lane => Sys2Proof.Machine.execCharge lane s
  | .balance lane => Sys2Proof.Machine.execBalance lane s
  | .authorise lane => Sys2Proof.Machine.execAuthorise lane s
  | .complete lane => Sys2Proof.Machine.execComplete lane s
  | .void lane => Sys2Proof.Machine.execVoid lane s
  | .gate lane => Sys2Proof.Machine.execGate lane s
  | .muster lane => Sys2Proof.Machine.execMuster lane s
  | .alarmLevelChange input level => Sys2Proof.Machine.execAlarmLevelChange input level s
  | .qualifiedAssertion input => Sys2Proof.Machine.execQualifiedAssertion input s
  | .qualifiedRelease input => Sys2Proof.Machine.execQualifiedRelease input s
  | .secondArrival => Sys2Proof.Machine.execSecondArrival s
  | .minuteTick => Sys2Proof.Machine.execMinuteTick s
  | .holdLapse => Sys2Proof.Machine.execHoldLapse s

end Sys2Proof.Machine
end

