-- ==== Sys2Proof/Safety.lean ====
section
/-! DEFINITION. The properties that the spec says hold at every moment, as predicates of a state. A predicate of the model's
own representation (rising indices, nothing listed for an empty entry) stands first; each of the others
cites the rule it states. -/

namespace Sys2Proof.Machine

/-! ### The representation (log entry 4) -/

/-- The indices of every table rise. -/
abbrev State.TablesSorted (s : State) : Prop :=
  Table.wf s.roster.guests ∧ Table.wf s.cards.slots ∧ Table.wf s.folio.folios ∧ Table.wf s.cabin.cabins
    ∧ Table.wf s.folio.outlets ∧ Table.wf s.hold.slots ∧ Table.wf s.field.posts

/-- A table that lists no entry in its empty condition. -/
abbrev State.TablesCanonical (s : State) : Prop :=
  (∀ e ∈ s.cabin.cabins, e.2 ≠ Cabin.empty) ∧ (∀ e ∈ s.folio.outlets, e.2 ≠ Outlet.cold)
    ∧ ∀ e ∈ s.hold.slots, e.2 ≠ HoldSlot.cold

/-! ### Partition (R1, R5, R36, R55, R75) -/

/-- A capacity of cabins, guests or folios that R5 can grant: a multiple of 64 from 64 to the table's greatest. -/
abbrev grantable (most n : Nat) : Prop := n % 64 = 0 ∧ 64 ≤ n ∧ n ≤ most

/-- Outside BLANK the capacities are ones that R5 grants; in BLANK nothing is granted (R1, R5). -/
abbrev State.PartitionValid (s : State) : Prop :=
  if s.store.part = .blank then s.store.caps = ⟨0, 0, 0, 0⟩
  else s.store.caps.cards ∈ [1024, 2048, 4096, 8192, 16384] ∧ s.store.caps.units ≤ Config.storeUnits
    ∧ grantable 4096 s.store.caps.cabins ∧ grantable 8192 s.store.caps.guests ∧ grantable 4096 s.store.caps.folios

/-- The deck map that SET_DECK and CONFIGURE_STORE leave: a non-empty slot holds a deck of 1 to 20 that no other slot
holds, and its rooms end below 1,000 (R12, R13). -/
abbrev Store.DeckMapSound (st : Store) : Prop :=
  ∀ k : Fin 20, (cell st.deckMap k).count ≠ 0 →
    1 ≤ (cell st.deckMap k).deck ∧ (cell st.deckMap k).deck ≤ 20
      ∧ (cell st.deckMap k).first + (cell st.deckMap k).count ≤ 1000
      ∧ ∀ m : Fin 20, m ≠ k → (cell st.deckMap m).count ≠ 0 → (cell st.deckMap m).deck ≠ (cell st.deckMap k).deck

/-- The deck map is sound and its cabins fit the cabin table; a lane's range is empty or lies in 1 to 20 (R12, R13,
R15). -/
abbrev Store.PlanSound (st : Store) : Prop :=
  st.DeckMapSound ∧ st.cabinCount ≤ st.caps.cabins
    ∧ ∀ n : Fin 4, ∀ r ∈ cell st.laneDecks n, 1 ≤ r.low ∧ r.low ≤ r.high ∧ r.high ≤ 20

/-- Every listed entry lies below the size of its table. -/
abbrev State.TablesSized (s : State) : Prop :=
  (∀ e ∈ s.roster.guests, e.1 < s.store.caps.guests) ∧ (∀ e ∈ s.cards.slots, e.1 < s.store.caps.cards)
    ∧ (∀ e ∈ s.folio.folios, e.1 < s.store.caps.folios) ∧ (∀ e ∈ s.cabin.cabins, e.1 < s.store.cabinCount)
    ∧ (∀ e ∈ s.folio.outlets, e.1 < 64) ∧ (∀ e ∈ s.hold.slots, e.1 < 256) ∧ (∀ k ∈ s.hold.lapsed, k < 256)
    ∧ ∀ e ∈ s.field.posts, e.1 < 256

/-- In BLANK no guest is ENROLLED (R1, R36). -/
abbrev State.BlankHasNoGuests (s : State) : Prop := s.store.part = .blank → s.roster.guests = []

/-! ### Lanes, link and clock (R147, R155, R156, R161, R168) -/

/-- A lane holds at most 8 requests and at most 8 busy answers, and never a whole frame in its receiver (R155,
R156). -/
abbrev Lane.Bounded (l : Lane) : Prop := l.queue.length ≤ 8 ∧ l.busy.length ≤ 8 ∧ l.receiver.length < 19

abbrev State.LanesBounded (s : State) : Prop := ∀ n : Fin 4, (s.laneAt n).Bounded

/-- No two posts hold the same lane and terminal address (R161). -/
abbrev State.PostsDistinct (s : State) : Prop :=
  (s.field.posts.map (fun e => (e.2.lane, e.2.terminal))).Nodup

/-- The slot is SCRUBBING. -/
def CommandSlot.isScrubbing (x : CommandSlot) : Bool :=
  match x with
  | .empty => false
  | .scrubbing _ => true
  | .ready _ => false

/-- The command slot is SCRUBBING exactly while a scrub is in flight (R168). -/
abbrev State.SlotMatchesScrub (s : State) : Prop := s.link.slot.isScrubbing = s.scrubbing

/-- The ranges of R147. -/
abbrev State.ClockInRange (s : State) : Prop :=
  s.clock.voyage ≤ Config.lastVoyageSecond ∧ s.clock.second ≤ 59 ∧ s.clock.minute ≤ 1439 ∧ s.clock.day ≤ 999
    ∧ s.clock.rollover ≤ 1439 ∧ s.clock.lastRollover ≤ s.clock.voyage ∧ s.clock.phase < Config.secondPeriods

/-- No two enabled override slots name the same cabin code (R62, R63). -/
abbrev State.OverridesDistinct (s : State) : Prop :=
  ∀ m n : Fin 8, m ≠ n → ∀ a ∈ cell s.cabin.overrides m, ∀ b ∈ cell s.cabin.overrides n,
    a.enable = true → b.enable = true → a.code ≠ b.code

/-- A disabled alarm input is RELEASED and qualifies nothing (R132). -/
abbrev State.InputsSound (s : State) : Prop :=
  ∀ n : Fin 4, (s.inputAt n).enabled = false → (s.inputAt n).asserted = false ∧ (s.inputAt n).interval = none

/-! ### Tallies (R36, R115, R139, R141) -/

/-- The number of guests that a test picks. -/
def State.countGuests (s : State) (p : Guest → Bool) : Nat := (s.roster.guests.filter (fun e => p e.2)).length

/-- The totals and the aboard counts count the guests (R36, R115). -/
abbrev State.CountsExact (s : State) : Prop :=
  s.roster.enrolled = s.roster.guests.length
    ∧ s.tally.expected = s.countGuests (fun g => g.presence == .expected)
    ∧ s.tally.aboard = s.countGuests (fun g => g.presence == .aboard)
    ∧ s.tally.ashore = s.countGuests (fun g => g.presence == .ashore)
    ∧ s.tally.departed = s.countGuests (fun g => g.presence == .departed)
    ∧ ∀ st : Fin 16, cell s.tally.aboardAt st = s.countGuests (fun g => g.presence == .aboard && g.station == st)

/-- An ABOARD guest of a station who is not mustered in the current epoch (R139). -/
def Guest.isMissing (g : Guest) (epoch : Nat) (st : Fin 16) : Bool :=
  g.presence == .aboard && g.station == st && g.epoch != epoch

/-- The unmustered counts, in a muster and outside one (R139). -/
abbrev State.UnmusteredExact (s : State) : Prop :=
  ∀ st : Fin 16, cell s.tally.unmustered st =
    if s.mode.muster then s.countGuests (fun g => g.isMissing s.tally.epoch st) else 0

/-- The completion state follows its condition during a muster and is OPEN outside one (R141, R144). -/
abbrev State.CompletionExact (s : State) : Prop :=
  s.tally.complete = (s.mode.muster && s.tally.completionHolds)

/-! ### Folio members and occupant lists (R56, R76) -/

/-- The member count of every folio counts the guests that name it, a guest names no FREE folio, and no CLOSED folio
is without members (R76). -/
abbrev State.MembersExact (s : State) : Prop :=
  (∀ e ∈ s.folio.folios, e.2.members = s.countGuests (fun g => g.folio == some e.1)
    ∧ (e.2.state = .closed → e.2.members ≠ 0))
    ∧ ∀ e ∈ s.roster.guests, ∀ f ∈ e.2.folio, (s.folioAt f).isSome = true

/-- The occupant lists and the cabins that guests name (R56). -/
abbrev State.OccupantsExact (s : State) : Prop :=
  (∀ e ∈ s.roster.guests, ∀ c ∈ e.2.cabin, e.1 ∈ (s.cabinAt c).occupants)
    ∧ ∀ e ∈ s.cabin.cabins, e.2.occupants.Nodup ∧ e.2.occupants.length ≤ 6
      ∧ (e.2.occupants = [] → e.2.privacy = false)
      ∧ ∀ k ∈ e.2.occupants, (s.guestAt k).bind Guest.cabin = some e.1

/-! ### Cards (R18, R20, R23, R31) -/

/-- The card of an IN_USE slot. -/
def CardSlot.card (x : CardSlot) : Option Card :=
  match x with
  | .retired => none
  | .inUse c => some c

/-- The IN_USE card of a slot. -/
def State.cardAt (s : State) (k : Nat) : Option Card := (s.cardSlotAt k).bind CardSlot.card

/-- The guest index of a GUEST card. -/
def Card.guestIndex (c : Card) : Option Nat :=
  match c.holder with
  | .guest i => some i
  | .service _ => none
  | .officer => none

/-- Every IN_USE card is found by a lookup of its serial in its own slot, so that no two IN_USE slots hold the same
serial (R20, R23). -/
abbrev State.CardsFound (s : State) : Prop :=
  ∀ e ∈ s.cards.slots, ∀ c ∈ e.2.card, s.lookupCard c.serial = some (e.1, c)

/-- The IN_USE and RETIRED counts (R18). -/
abbrev State.CardCountsExact (s : State) : Prop :=
  s.cards.inUseCount = (s.cards.slots.filter (fun e => e.2 != .retired)).length
    ∧ s.cards.retiredCount = (s.cards.slots.filter (fun e => e.2 == .retired)).length

/-- A GUEST card names an ENROLLED guest whose card list holds its serial, and is SUSPENDED when that guest is
DEPARTED (R20, R31). -/
abbrev State.CardsNameGuests (s : State) : Prop :=
  ∀ e ∈ s.cards.slots, ∀ c ∈ e.2.card, ∀ i ∈ c.guestIndex, (s.guestAt i).isSome = true
    ∧ ∀ g ∈ s.guestAt i, c.serial ∈ g.cards ∧ (g.presence = .departed → c.state = .suspended)

/-- The card lists of the guests (R20). -/
abbrev State.CardListsExact (s : State) : Prop :=
  ∀ e ∈ s.roster.guests, e.2.cards.Nodup ∧ e.2.cards.length ≤ 4
    ∧ ∀ n ∈ e.2.cards, (s.lookupCard n).map (fun x => x.2.holder) = some (.guest e.1)

/-! ### Holds (R75, R76, R98, R99, R102, R109) -/

/-- The ACTIVE hold of a slot. -/
def HoldSlot.activeHold (h : HoldSlot) : Option Hold :=
  match h.status with
  | .free => none
  | .active x => some x
  | .lapsed _ => none

/-- The slot is LAPSED. -/
def HoldSlot.isLapsed (h : HoldSlot) : Bool :=
  match h.status with
  | .free => false
  | .active _ => false
  | .lapsed _ => true

/-- The sum of the amounts of the ACTIVE holds that a test picks. -/
def State.sumHolds (s : State) (p : Hold → Bool) : Nat :=
  ((s.hold.slots.filterMap (fun e => e.2.activeHold)).filter p |>.map Hold.amount).sum

/-- An ACTIVE hold names an OPEN or FROZEN folio that lists it and an ENROLLED guest, has an amount of 1 to
2,400,000, and lapses at a voyage second still to come or at the last one (R98, R109). -/
abbrev State.ActiveHoldsSound (s : State) : Prop :=
  ∀ e ∈ s.hold.slots, ∀ h ∈ e.2.activeHold,
    (s.folioAt h.folio).isSome = true ∧ (∀ f ∈ s.folioAt h.folio, f.state ≠ .closed ∧ e.1 ∈ f.holds)
      ∧ (s.guestAt h.guest).isSome = true ∧ 1 ≤ h.amount ∧ h.amount ≤ 2400000
      ∧ h.expiry ≤ Config.lastVoyageSecond ∧ (s.clock.voyage < h.expiry ∨ h.expiry = Config.lastVoyageSecond)

/-- The held total and the hold list of every folio (R102); a CLOSED folio has a zero balance and no holds (R76,
R80). -/
abbrev State.FolioHoldsExact (s : State) : Prop :=
  ∀ e ∈ s.folio.folios, e.2.held = s.sumHolds (fun h => h.folio == e.1)
    ∧ e.2.holds.Nodup ∧ e.2.holds.length ≤ 8
    ∧ (∀ k ∈ e.2.holds, (s.holdAt k).activeHold.map Hold.folio = some e.1)
    ∧ (e.2.state = .closed → e.2.holds = [] ∧ e.2.balance = 0)

/-- The held amount of every guest (R102). -/
abbrev State.GuestHeldExact (s : State) : Prop :=
  ∀ e ∈ s.roster.guests, e.2.held = s.sumHolds (fun h => h.guest == e.1)

/-- The lapsed list holds exactly the LAPSED slots, none twice (R99). -/
abbrev State.LapsedExact (s : State) : Prop :=
  s.hold.lapsed.Nodup ∧ (∀ k ∈ s.hold.lapsed, (s.holdAt k).isLapsed = true)
    ∧ ∀ e ∈ s.hold.slots, e.2.isLapsed = true → e.1 ∈ s.hold.lapsed

/-- The ranges of a folio's fields (R75, R79, R92, R107). -/
abbrev State.FoliosInRange (s : State) : Prop :=
  ∀ e ∈ s.folio.folios, 1 ≤ e.2.number ∧ e.2.credit ≤ Config.greatestLimit
    ∧ -99999999 ≤ e.2.balance ∧ e.2.balance + e.2.held ≤ 99999999

/-- The ranges of the outlets and currencies (R82, R84). -/
abbrev State.RatesInRange (s : State) : Prop :=
  (∀ e ∈ s.folio.outlets, e.2.gratuity ≤ 250 ∧ (∀ g ∈ e.2.staged, g ≤ 250) ∧ 1 ≤ e.2.lifetime
    ∧ e.2.lifetime ≤ 240 ∧ e.2.overrun ≤ 200)
    ∧ ∀ k : Fin 8, 1 ≤ (cell s.folio.currencies k).live ∧ (cell s.folio.currencies k).live ≤ 1000000
      ∧ ∀ r ∈ (cell s.folio.currencies k).staged, 1 ≤ r ∧ r ≤ 1000000

/-- The ranges of a guest's fields and of the muster epoch (R37, R114). -/
abbrev State.GuestsInRange (s : State) : Prop :=
  s.tally.epoch ≤ 255 ∧ ∀ e ∈ s.roster.guests, 1 ≤ e.2.reference ∧ (∀ l ∈ e.2.dayLimit, l ≤ Config.greatestLimit)
    ∧ e.2.spendDay ≤ 999 ∧ e.2.spent ≤ 12000000 ∧ e.2.epoch ≤ 255
    ∧ ∀ l ∈ e.2.lastPass, l ≤ s.clock.voyage

/-- No two ENROLLED guests hold the same booking reference, and no two folios the same number (R37, R75). -/
abbrev State.KeysDistinct (s : State) : Prop :=
  (s.roster.guests.map (fun e => e.2.reference)).Nodup ∧ (s.folio.folios.map (fun e => e.2.number)).Nodup

/-- Currency entry 0, the ship's own: enabled at 10,000, nothing staged (R82). -/
abbrev State.ShipCurrencyFixed (s : State) : Prop := cell s.folio.currencies 0 = ⟨true, 10000, none⟩

/-! ### Groups of properties that every step keeps together -/

/-- The control state: lanes, link, clock, posts, overrides and alarm inputs. -/
abbrev State.ControlSound (s : State) : Prop :=
  s.LanesBounded ∧ s.SlotMatchesScrub ∧ s.ClockInRange ∧ s.InputsSound ∧ s.OverridesDistinct

/-- The tables: their form, their sizes, the partition, the deck map and the lane ranges. -/
abbrev State.TablesSound (s : State) : Prop :=
  s.TablesSorted ∧ s.TablesCanonical ∧ s.PartitionValid ∧ s.store.PlanSound ∧ s.TablesSized ∧ s.PostsDistinct

/-- The counts of the tally unit. -/
abbrev State.TalliesSound (s : State) : Prop :=
  s.TablesSorted ∧ s.BlankHasNoGuests ∧ s.CountsExact ∧ s.UnmusteredExact ∧ s.CompletionExact

/-- The member counts and the occupant lists. -/
abbrev State.AssignmentsSound (s : State) : Prop := s.TablesSorted ∧ s.MembersExact ∧ s.OccupantsExact

/-- The card table and the card lists. -/
abbrev State.CardsSound (s : State) : Prop :=
  s.TablesSorted ∧ s.CardsFound ∧ s.CardCountsExact ∧ s.CardsNameGuests ∧ s.CardListsExact

/-- The holds, the folios and the guests they name. -/
abbrev State.HoldsSound (s : State) : Prop :=
  s.TablesSorted ∧ s.ClockInRange ∧ s.RatesInRange ∧ s.ActiveHoldsSound ∧ s.FolioHoldsExact ∧ s.GuestHeldExact
    ∧ s.LapsedExact ∧ s.FoliosInRange

/-- The ranges of the guests, the distinct keys and the ship's own currency. -/
abbrev State.RangesSound (s : State) : Prop :=
  s.TablesSorted ∧ s.ClockInRange ∧ s.GuestsInRange ∧ s.KeysDistinct ∧ s.ShipCurrencyFixed

/-- Everything at once. -/
abbrev State.Sound (s : State) : Prop :=
  s.ControlSound ∧ s.TablesSound ∧ s.TalliesSound ∧ s.AssignmentsSound ∧ s.CardsSound ∧ s.HoldsSound
    ∧ s.RangesSound

/-! ### The words of the statements -/

/-- A command frame of a tag and a payload, its length as the header gives it (Section 11.1). -/
def frameOf (tag : Byte) (payload : List Byte) : HostFrame := ⟨tag, BitVec.ofNat 8 payload.length, payload⟩

/-- The state `t` with a command's answer in the link: the slot READY with the response, filler on SDO, COMMAND_DONE
raised, and one more draw of the model's free values (R166 to R168). -/
def State.answered (t : State) (code : Byte) (f : HostFrame) (r : Result) (data : List Byte) : State :=
  { t with
    link := ⟨.ready ⟨code, f.tag, r, data⟩, filler (3 + f.payload.length)⟩
    notice := t.notice.raise .commandDone
    draws := t.draws + 1 }

/-- The state `s` after a command frame that it discards (R168). -/
def State.overrun (s : State) (f : HostFrame) : State :=
  { s with link := ⟨s.link.slot, filler (3 + f.payload.length)⟩, notice := s.notice.raise .linkOverrun }

/-- The part admits record commands: it is not in BLANK (R2). -/
abbrev State.HasRecords (s : State) : Prop := s.store.part ≠ .blank

/-- The command slot is EMPTY. -/
abbrev State.SlotEmpty (s : State) : Prop := s.link.slot = .empty

/-- The dispatcher of a lane is free to take the request at the head of its queue (R158). -/
abbrev State.Heads (s : State) (n : Fin 4) (r : Request) (rest : List Request) : Prop :=
  (s.laneAt n).queue = r :: rest ∧ (s.laneAt n).transmitter = .idle ∧ (s.laneAt n).busy = []

/-- The state `t` with a request taken off the head of a lane's queue and its reply begun (R158). -/
def State.replying (t : State) (n : Fin 4) (r : Request) (rest : List Request) (reason : Reason)
    (data : List Byte) : State :=
  t.putLane n
    { t.laneAt n with
      queue := rest, transmitter := .sending ⟨r.terminal, r.sequence, r.kind, reason, data⟩ }

/-- Field requests are served: field service RUNNING, the part not BLANK, no scrub in flight (test 1 of R66, R93,
R119 and the others). -/
abbrev State.Serves (s : State) : Prop := s.field.running = true ∧ s.store.part ≠ .blank ∧ s.store.scrub = none

/-- The post table holds a post of this kind for a lane and terminal address (R161). -/
abbrev State.HasPost (s : State) (n : Fin 4) (terminal : BitVec 10) (kind : PostKind) : Prop :=
  ∃ e : Nat, s.postAt n terminal = some (e, ⟨n, terminal, kind⟩)

/-- A presentation resolves to a GUEST card of the ENROLLED guest `k`, who is not DEPARTED (R33, R93). -/
abbrev State.Presents (s : State) (card : Presentation) (k : Nat) (g : Guest) : Prop :=
  (∃ x : Resolution, s.resolve card = .ok x ∧ x.holder = .guest k) ∧ s.guestAt k = some g ∧ g.presence ≠ .departed

/-- Tests 1 to 11 of a CHARGE pass at a till of outlet `o`: the guest `k`, the folio `a` and the charge `c` (R93). -/
abbrev State.Sells (s : State) (n : Fin 4) (terminal : BitVec 10) (o : Fin 64) (card : Presentation)
    (amount currency category k : Nat) (g : Guest) (a : Nat) (x : Folio) (c : Charge) : Prop :=
  s.Serves ∧ s.HasPost n terminal (.till o) ∧ (s.outletAt o.val).isOpen = true
    ∧ s.mode.muster = false ∧ s.mode.lockdown = false ∧ s.mode.charging = false
    ∧ s.Presents card k g ∧ g.mayCharge = true ∧ g.folio = some a ∧ s.folioAt a = some x ∧ x.state = .opened
    ∧ s.computeCharge amount currency (s.outletAt o.val) = some c
    ∧ (category = 0 ∨ (g.band = .adult ∧ (s.outletAt o.val).alcohol = true))

/-- A card presentation that names no guest still on the voyage is refused: with the resolution's reason, with DENY_CLASS
for a SERVICE or OFFICER card, with DENY_DEPARTED for a DEPARTED guest (R33; tests 5 to 7 of R93, tests 4 to 6 of
R119 and R142). `refused` says how a reason is answered. -/
abbrev State.GuestStops (s : State) (card : Presentation) (refused : Reason → Prop) : Prop :=
  (∀ x : Reason, s.resolve card = .error (x, []) → refused x)
    ∧ ∀ c : Resolution, s.resolve card = .ok c →
      ((∀ k, c.holder ≠ .guest k) → refused .denyClass)
      ∧ ∀ (k : Nat) (g : Guest), c.holder = .guest k → s.guestAt k = some g → g.presence = .departed →
        refused .denyDeparted

/-- The first of tests 2 to 11 of a CHARGE or an AUTHORISE that fails gives its reason (R93, R94, R104). -/
abbrev State.SaleStops (s : State) (n : Fin 4) (terminal : BitVec 10) (card : Presentation)
    (amount currency category : Nat) (refused : Reason → Prop) : Prop :=
  ((∀ o : Fin 64, ¬ s.HasPost n terminal (.till o)) → refused .denyPost)
    ∧ ∀ o : Fin 64, s.HasPost n terminal (.till o) →
      let out := s.outletAt o.val
      let calm : Prop := s.mode.muster = false ∧ s.mode.lockdown = false ∧ s.mode.charging = false
      (out.isOpen = false → refused .denyOutletClosed)
      ∧ (out.isOpen = true → ¬ calm → refused .denyMode)
      ∧ (out.isOpen = true → calm → s.GuestStops card refused
        ∧ ∀ (k : Nat) (g : Guest), s.Presents card k g →
          (g.mayCharge = false → refused .denyChargePrivilege)
          ∧ (g.mayCharge = true → (g.folio = none → refused .noFolio)
            ∧ ∀ a : Nat, g.folio = some a →
              ((∀ x, s.folioAt a = some x → x.state ≠ .opened) → refused .denyFolio)
              ∧ ((∃ x, s.folioAt a = some x ∧ x.state = .opened) →
                (s.computeCharge amount currency out = none → refused .badAmount)
                ∧ (s.computeCharge amount currency out ≠ none → category ≠ 0 →
                  ¬ (g.band = .adult ∧ out.alcohol = true) → refused .denyAge))))

/-- An optional or changeable field of a payload: marker 1 and the value, or the marker of what is not given (0 for
absent, 2 for "unchanged") and bytes that are ignored (R175). -/
def givenOr {α : Type} (marker : Nat) (ignored : List Byte) (value : α → List Byte) (x : Option α) : List Byte :=
  match x with
  | some a => e8 1 ++ value a
  | none => e8 marker ++ ignored

/-- A changeable field in which absence is a value of its own: unchanged, absent or given (R175). -/
def givenBoth {α : Type} (ignored : List Byte) (value : α → List Byte) (x : Option (Option α)) : List Byte :=
  match x with
  | some (some a) => e8 1 ++ value a
  | some none => e8 0 ++ ignored
  | none => e8 2 ++ ignored

/-- The catalogue of Section 11.3: code, fixed payload length (the sum of the widths of the fields that the command's
section lists), class. -/
def catalogue : List Command :=
  [⟨0x10, 8, .configure⟩, ⟨0x11, 0, .operation⟩, ⟨0x12, 0, .lock⟩, ⟨0x13, 0, .finish⟩, ⟨0x14, 7, .structural⟩,
    ⟨0x15, 6, .structural⟩, ⟨0x20, 17, .record⟩, ⟨0x21, 4, .record⟩, ⟨0x22, 4, .record⟩, ⟨0x23, 4, .record⟩,
    ⟨0x24, 4, .record⟩, ⟨0x25, 5, .record⟩, ⟨0x30, 21, .record⟩, ⟨0x31, 28, .record⟩, ⟨0x32, 2, .record⟩,
    ⟨0x33, 2, .record⟩, ⟨0x34, 4, .record⟩, ⟨0x35, 2, .record⟩, ⟨0x36, 14, .record⟩]
  ++ [⟨0x40, 10, .record⟩, ⟨0x41, 10, .record⟩, ⟨0x42, 1, .record⟩, ⟨0x43, 0, .record⟩, ⟨0x44, 5, .record⟩,
    ⟨0x50, 8, .record⟩, ⟨0x51, 8, .record⟩, ⟨0x52, 6, .record⟩, ⟨0x53, 6, .record⟩, ⟨0x54, 2, .record⟩,
    ⟨0x55, 5, .record⟩, ⟨0x56, 8, .operation⟩, ⟨0x57, 0, .operation⟩, ⟨0x58, 14, .operation⟩,
    ⟨0x59, 2, .operation⟩, ⟨0x60, 2, .record⟩, ⟨0x61, 1, .record⟩, ⟨0x70, 6, .operation⟩, ⟨0x71, 3, .record⟩,
    ⟨0x72, 7, .operation⟩, ⟨0x73, 2, .operation⟩, ⟨0x74, 0, .operation⟩, ⟨0x75, 2, .operation⟩]
  ++ [⟨0x80, 4, .structural⟩, ⟨0x81, 0, .operation⟩, ⟨0x82, 0, .operation⟩, ⟨0x83, 0, .operation⟩,
    ⟨0x84, 0, .operation⟩, ⟨0x85, 0, .operation⟩, ⟨0x86, 0, .operation⟩, ⟨0x87, 0, .operation⟩,
    ⟨0x90, 4, .operation⟩, ⟨0x91, 2, .operation⟩, ⟨0x92, 2, .operation⟩, ⟨0x93, 0, .operation⟩,
    ⟨0xA0, 0, .operation⟩, ⟨0xA1, 0, .operation⟩, ⟨0xA2, 12, .structural⟩, ⟨0xA3, 4, .operation⟩,
    ⟨0xA4, 2, .operation⟩, ⟨0xA5, 0, .operation⟩, ⟨0xB0, 5, .operation⟩, ⟨0xB1, 2, .operation⟩,
    ⟨0xB2, 0, .operation⟩]

/-- The records and tallies after the acceptance of a command that starts a scrub, in the partition `store` (R7). -/
def State.scrubbed (s : State) (store : Store) : State :=
  { s with
    store := { store with scrub := some 0 }
    cards := ⟨[], 0, 0⟩, roster := ⟨[], 0⟩, cabin := ⟨[], Vector.replicate 8 none⟩
    folio := { s.folio with folios := [] }, hold := ⟨[], []⟩
    tally := { s.tally with
      expected := 0, aboard := 0, ashore := 0, departed := 0
      aboardAt := Vector.replicate 16 0, unmustered := Vector.replicate 16 0
      epoch := if s.mode.muster then s.tally.epoch else 0
      watches := s.tally.watches.map (fun w => { w with armed := false }), groupPending := 0 } }

/-- The state `t` with a scrubbing command's response withheld in the slot (R168). -/
def State.withheld (t : State) (code : Byte) (f : HostFrame) (data : List Byte) : State :=
  { t with
    link := ⟨.scrubbing (some ⟨code, f.tag, .done, data⟩), filler (3 + f.payload.length)⟩, draws := t.draws + 1 }

end Sys2Proof.Machine
end

