-- ==== Sys2Proof/WellFormed.lean ====
section
/-! DEFINITION. What a command of `Instr` must be to stand for its row: a SHORT_TRANSACTION has fewer than three whole bytes
(R166), an UNKNOWN_COMMAND_FRAME bears a code that names no command (R167), and a REQUEST_FRAME delivers no
more bytes than the longest request frame has (Section 12.2).
Every other operand is well formed by its type. -/

namespace Sys2Proof

/-- The longest request frame: six bytes of start and header, eleven of payload, two of CRC (Section 12.2). -/
def longestRequestFrame : Nat := 19

/-- Whether a command is well formed. -/
def Instr.wellFormed (i : Instr) : Bool :=
  match i with
  | .shortTransaction bytes => bytes.length < 3
  | .unknownCommandFrame code _ => !(commandCodes.contains code)
  | .requestFrame _ bytes => bytes.length ≤ longestRequestFrame
  | .coldStart | .warmStart | .scrubComplete | .status _ | .fetch _ => true
  | .configureStore _ | .readStore _ | .lockVoyage _ | .endVoyage _ | .setDeck _ | .setLaneDecks _ => true
  | .issueCard _ | .reissueCard _ | .suspendCard _ | .restoreCard _ | .retireCard _ | .readCard _ => true
  | .enrolGuest _ | .amendGuest _ | .departGuest _ | .retireGuest _ | .lookupGuest _ | .readGuest _ => true
  | .findGuests _ | .setCabin _ | .setOverride _ | .clearOverride _ | .readOverrides _ | .readCabin _ => true
  | .openFolio _ | .amendFolio _ | .postPayment _ | .postCharge _ | .settleFolio _ | .readFolio _ => true
  | .setCurrency _ | .readCurrencies _ | .setOutlet _ | .readOutlet _ => true
  | .releaseFolioHolds _ | .readHold _ => true
  | .setGangway _ | .setPresence _ | .setTallyWatch _ | .setWatchGroups _ | .readTallies _ => true
  | .setAlarmInput _ | .startMuster _ | .setLockdown _ | .stopCharging _ | .endMuster _ => true
  | .clearLockdown _ | .resumeCharging _ | .setStations _ | .readModes _ => true
  | .setClock _ | .shiftLocalTime _ | .setRolloverMinute _ | .readClock _ => true
  | .haltField _ | .resumeField _ | .addPost _ | .removePost _ | .readPosts _ | .readLanes _ => true
  | .setNotices _ | .clearNotices _ | .readNotices _ => true
  | .replyFrameComplete _ | .entry _ | .privacy _ | .charge _ | .balance _ | .authorise _ => true
  | .complete _ | .void _ | .gate _ | .muster _ => true
  | .alarmLevelChange _ _ | .qualifiedAssertion _ | .qualifiedRelease _ => true
  | .secondArrival | .minuteTick | .holdLapse => true

end Sys2Proof
end

