-- ==== Sys2Proof/Certificates/Slice0/Obligations.lean ====
section
/-! DEFINITION. The statements for the provers. Each is about the meanings of Machine/ and the predicates of Safety.lean; a
response or reply is given with all its data, and where a statement gives the whole next state, what it does
not name is unchanged. -/

open Sys2Proof Sys2Proof.Machine

/-- A step takes the command at the front of the queue. The queue of waiting commands is the model's own (log
entry 1). -/
def Obligations.StepTakesFrontCommand : Prop :=
  ∀ (s : State) (c : Instr) (rest : List Instr), s.pending = c :: rest →
    step s = exec c { s with pending := rest }

/-- With no command waiting, 1,311 time-base periods end a scrub and free its response. A step without a command
is one period of the time base: the model's choice, log entry 17. -/
def Obligations.ScrubRunsItsPeriods : Prop :=
  ∀ (s : State) (r : Response), s.pending = [] → s.clock.running = false → (∀ n : Fin 4, (s.inputAt n).interval = none) →
    s.store.scrub = some 0 → s.link.slot = .scrubbing (some r) →
    (∀ k, k < 1311 → Host.Core.run Sys2Proof.core k s = .next { s with store := { s.store with scrub := some k } })
      ∧ Host.Core.run Sys2Proof.core 1311 s
        = .next { s with
            store := { s.store with scrub := none }, link := { s.link with slot := .ready r }
            notice := { s.notice with flags := s.notice.flags ||| 1#13 } }

/-- An active level held for 1,311 periods gives one qualified assertion, and ALARM_LINE. A step without a
command is one period of the time base: the model's choice, log entry 17. -/
def Obligations.ActiveLevelHeldIsQualified : Prop :=
  ∀ (s : State) (n : Fin 4), s.pending = [] → s.clock.running = false → s.store.scrub = none →
    (∀ m : Fin 4, m ≠ n → (s.inputAt m).interval = none) → (s.inputAt n).enabled = true →
    (s.inputAt n).role = .lockdown → (s.inputAt n).asserted = false → (s.inputAt n).line = (s.inputAt n).active →
    (s.inputAt n).interval = some 0 →
    let after : State := { s with
      mode := { s.mode with
        inputs := putCell s.mode.inputs n { s.inputAt n with asserted := true, interval := none, fresh := false }
        lockdown := true }
      notice := { s.notice with
        flags := s.notice.flags ||| 0x800#13, inputBits := s.notice.inputBits ||| BitVec.twoPow 4 n.val } }
    (∀ k, k < 1311 → Host.Core.run Sys2Proof.core k s = .next { s with
        mode := { s.mode with inputs := putCell s.mode.inputs n { s.inputAt n with interval := some k } } })
      ∧ Host.Core.run Sys2Proof.core 1311 s = .next after ∧ Host.Core.run Sys2Proof.core 1312 s = .next after

/-- With no command waiting, the running clock takes a second arrival at every 32,768th period. A step without a
command is one period of the time base: the model's choice, log entry 17. -/
def Obligations.SecondTakesItsPeriods : Prop :=
  ∀ s : State, s.pending = [] → s.clock.running = true → (∀ n : Fin 4, (s.inputAt n).interval = none) →
    s.store.scrub = none →
    (s.clock.phase + 1 < 32768 → step s = .next { s with clock := { s.clock with phase := s.clock.phase + 1 } })
      ∧ (s.clock.phase = 32767 → (step s = exec .secondArrival s))

/-- A cold start leaves BLANK, no partition, no record and the cold values of every block. The levels on the
alarm lines and the queue stay as they were and no input has an interval in progress: the model's choices, log
entries 9, 16 and 35. -/
def Obligations.ColdStartValues : Prop :=
  ∀ s : State, ∃ t : State, exec .coldStart s = .next t
    ∧ t.store = ⟨.blank, none, ⟨0, 0, 0, 0⟩, Vector.replicate 20 ⟨0, 0, 0⟩, Vector.replicate 4 none⟩
    ∧ t.store.caps.units = 0 ∧ t.cards = ⟨[], 0, 0⟩ ∧ t.roster = ⟨[], 0⟩ ∧ t.cabin = ⟨[], Vector.replicate 8 none⟩
    ∧ t.folio.folios = [] ∧ cell t.folio.currencies 0 = ⟨true, 10000, none⟩
    ∧ (∀ k : Fin 8, k ≠ 0 → cell t.folio.currencies k = ⟨false, 10000, none⟩)
    ∧ (∀ k : Nat, t.outletAt k = ⟨false, 0, none, 60, 0, false⟩)
    ∧ (∀ k : Nat, t.holdAt k = ⟨.free, 0⟩) ∧ t.hold.lapsed = []
    ∧ t.tally.expected = 0 ∧ t.tally.aboard = 0 ∧ t.tally.ashore = 0 ∧ t.tally.departed = 0
    ∧ t.tally.aboardAt = Vector.replicate 16 0 ∧ t.tally.unmustered = Vector.replicate 16 0 ∧ t.tally.epoch = 0
    ∧ t.tally.stations = 0 ∧ t.tally.complete = false ∧ t.tally.gangways = Vector.replicate 8 ⟨.closed, 10⟩
    ∧ (∀ n : Fin 2, (cell t.tally.watches n).source = .aboardTotal ∧ (cell t.tally.watches n).value = 0
        ∧ (cell t.tally.watches n).armed = false)
    ∧ t.tally.groupEnable = 0 ∧ t.tally.groupPending = 0
    ∧ t.mode.muster = false ∧ t.mode.lockdown = false ∧ t.mode.charging = false
    ∧ (∀ n : Fin 4, t.inputAt n = ⟨false, .high, .none, false, (s.inputAt n).line, none, false⟩)
    ∧ t.clock.running = false ∧ t.clock.voyage = 0 ∧ t.clock.second = 0 ∧ t.clock.minute = 0 ∧ t.clock.day = 0
    ∧ t.clock.rollover = 240 ∧ t.clock.lastRollover = 0
    ∧ (∀ n : Fin 4, (t.laneAt n).queue = [] ∧ (t.laneAt n).transmitter = .idle ∧ (t.laneAt n).busy = []
        ∧ (t.laneAt n).receiver = [] ∧ (t.laneAt n).ready = true)
    ∧ t.field.running = false ∧ t.field.posts = [] ∧ t.link.slot = .empty
    ∧ t.notice = ⟨0, 0, 0, 0, .single, .activeHigh, .activeHigh⟩ ∧ t.pending = s.pending

/-- A warm start keeps every record, stops the clock, empties the lanes and the link, restarts a scrub. The
whole state is given, so what is not named is kept. -/
def Obligations.WarmStartKeepsRecords : Prop :=
  ∀ s : State, exec .warmStart s = .next { s with
    store := { s.store with scrub := s.store.scrub.map (fun _ => 0) }
    mode := { s.mode with
      inputs := s.mode.inputs.map (fun x =>
        { x with interval := if x.enabled then some 0 else none, fresh := x.enabled }) }
    clock := { s.clock with running := false }
    field := { s.field with lanes := Vector.replicate 4 ⟨[], [], .idle, [], []⟩, running := false }
    link := ⟨if s.store.scrub.isSome then .scrubbing none else .empty, []⟩
    notice := ⟨0x1000#13, 0, 0, 0, .single, .activeHigh, .activeHigh⟩ }

/-- SCRUB_COMPLETE clears SCRUBBING, frees a withheld response with COMMAND_DONE, or empties the slot. With no
scrub in flight there is no completion: the model's choice, log entry 5. -/
def Obligations.ScrubCompletion : Prop :=
  ∀ s : State,
    (∀ r, s.store.scrub.isSome = true → s.link.slot = .scrubbing (some r) →
      exec .scrubComplete s = .next { s with
        store := { s.store with scrub := none }, link := { s.link with slot := .ready r }
        notice := { s.notice with flags := s.notice.flags ||| 1#13 } })
    ∧ (s.store.scrub.isSome = true → s.link.slot = .scrubbing none →
      exec .scrubComplete s = .next { s with
        store := { s.store with scrub := none }, link := { s.link with slot := .empty } })
    ∧ (s.store.scrub = none → exec .scrubComplete s = .next s)

/-- While the slot is SCRUBBING or READY every command frame is discarded with LINK_OVERRUN alone. The whole
state is given, so what is not named is kept. That filler is 0x00 is log entry 7. R160 speaks of a RESUME_FIELD,
and R136 of a muster started by the host, during a scrub: that these frames are discarded too is the model's
choice, log entry 43. -/
def Obligations.OccupiedSlotDiscardsFrames : Prop :=
  ∀ (code : Byte) (f : HostFrame) (s : State), code ≠ 0x01 → code ≠ 0x02 → s.link.slot ≠ .empty →
    exec (decodeCommand code f) s = .next { s with
      link := ⟨s.link.slot, List.replicate (3 + f.payload.length) 0⟩
      notice := { s.notice with flags := s.notice.flags ||| 2#13 } }

/-- The frame tests: the frame's length, its code, the command's length, the part state. The codes of the
catalogue with STATUS and FETCH are `commandCodes`. The lengths of SET_CURRENCY (log entry 12), of ADD_POST (log
entry 26) and of the commands with a field that Section 12.1 does not list (log entry 25) are the model's. -/
def Obligations.FrameTestsInOrder : Prop :=
  ∀ (f : HostFrame) (s : State), (∀ bytes : List Byte, exec (.shortTransaction bytes) s = .next s)
    ∧ (s.link.slot = .empty →
    (∀ code : Byte, code ≠ 0x01 → code ≠ 0x02 →
      ¬ (f.length.toNat ≤ 120 ∧ f.payload.length = f.length.toNat) →
      exec (decodeCommand code f) s = .next (s.answered code f .badFrame []))
    ∧ (∀ code : Byte, code ∉ commandCodes →
      exec (.unknownCommandFrame code f) s
        = .next (s.answered code f
            (if f.length.toNat ≤ 120 ∧ f.payload.length = f.length.toNat then .unknownCommand else .badFrame) []))
    ∧ ∀ c ∈ catalogue, f.length.toNat ≤ 120 → f.payload.length = f.length.toNat →
      (f.length.toNat ≠ c.length → exec (decodeCommand c.code f) s = .next (s.answered c.code f .badFrame []))
      ∧ (f.length.toNat = c.length →
        (s.store.part = .blank → c.cls ∈ [.lock, .finish, .structural, .record] →
          exec (decodeCommand c.code f) s = .next (s.answered c.code f .wrongState []))
        ∧ (s.store.part = .setup → c.cls = .finish →
          exec (decodeCommand c.code f) s = .next (s.answered c.code f .wrongState []))
        ∧ (s.store.part = .inVoyage → c.cls ∈ [.configure, .lock] →
          exec (decodeCommand c.code f) s = .next (s.answered c.code f .wrongState []))
        ∧ (s.store.part = .inVoyage → c.cls = .structural →
          exec (decodeCommand c.code f) s = .next (s.answered c.code f .locked []))))

/-- STATUS answers its ten bytes, then 0x00, outside the slot, and changes nothing else. The bytes are those of
the STATUS table of Section 12.3. Bits 5 to 7 of byte 1 and bits 13 to 15 of the flags are 0 by the model's
choice, log entries 41 and 42. -/
def Obligations.StatusAnswerBytes : Prop :=
  ∀ (r : Readout) (s : State),
    let part : Nat := match s.store.part with | .blank => 0 | .setup => 1 | .inVoyage => 2
    let bits : Nat := s.store.scrub.isSome.toNat + 2 * s.field.running.toNat + 4 * s.clock.running.toNat
      + 8 * s.notice.atn0.toNat + 16 * s.notice.atn1.toNat
    let slot : Nat := match s.link.slot with | .empty => 0 | .scrubbing _ => 1 | .ready _ => 2
    let held : List Byte := match s.link.slot with
      | .scrubbing (some x) => [x.code, x.tag]
      | .ready x => [x.code, x.tag]
      | _ => [0, 0]
    let answer : List Byte := e8 part ++ e8 bits ++ e8 slot ++ held ++ e16 s.notice.flags.toNat
      ++ e8 (s.notice.laneBits.toNat + 16 * s.notice.inputBits.toNat) ++ e16 s.tally.groupPending.toNat
    answer.length = 10
    ∧ exec (.status r) s = .next { s with
        link := { s.link with sdo := (answer ++ List.replicate r.clocked 0).take r.clocked } }

/-- FETCH delivers a held response and empties the slot only when every byte was clocked out. The answers are
those of the tables of Section 12.3. -/
def Obligations.FetchDeliversWhole : Prop :=
  ∀ (r : Readout) (s : State),
    (∀ x, s.link.slot = .ready x →
      let answer : List Byte := [x.code, x.tag, resultCode x.result] ++ e8 x.data.length ++ x.data
      let sdo := (answer ++ List.replicate r.clocked 0).take r.clocked
      (4 + x.data.length ≤ r.clocked → exec (.fetch r) s = .next { s with link := ⟨.empty, sdo⟩ })
      ∧ (r.clocked < 4 + x.data.length → exec (.fetch r) s = .next { s with link := ⟨.ready x, sdo⟩ }))
    ∧ (s.link.slot = .empty → exec (.fetch r) s = .next { s with
        link := ⟨.empty, (([0x02, 0, 0xFF, 1, 0] : List Byte) ++ List.replicate r.clocked 0).take r.clocked⟩ })
    ∧ ∀ x, s.link.slot = .scrubbing x → exec (.fetch r) s = .next { s with
        link := ⟨.scrubbing x, (([0x02, 0, 0xFF, 1, 1] : List Byte) ++ List.replicate r.clocked 0).take r.clocked⟩ }

/-- Every link transaction decodes to the command that wrote it. Over all 87 commands; those that are no
transaction have no bytes. -/
def Obligations.TransactionsDecodeToThemselves : Prop :=
  (∀ (i : Instr) (bytes : List Byte), i.wellFormed = true → encodeTransaction i = some bytes →
    decodeTransaction bytes = i)
    ∧ ∀ i j : Instr, i.wellFormed = true → j.wellFormed = true → (encodeTransaction i).isSome = true →
      encodeTransaction i = encodeTransaction j → i = j

/-- The eight reads without an operand answer their blocks as they stand and change nothing. The model's choices
in it are those of log entries 2, 10, 14, 19, 24, 25, 35, 36, 39 and 42. -/
def Obligations.ReadsOfWholeBlocks : Prop :=
  ∀ (s : State) (tag : Byte), s.SlotEmpty →
    let f := frameOf tag []
    let flag : Bool → List Byte := fun b => e8 (if b then 0 else 1)
    let mark : Bool → List Byte := fun b => e8 (if b then 1 else 0)
    let st := s.store
    let t := s.tally
    let c := s.clock
    let u := s.notice
    exec (.readStore f) s = .next (s.answered 0x11 f .done
      (e8 (match st.part with | .blank => 0 | .setup => 1 | .inVoyage => 2) ++ mark st.scrub.isSome
        ++ e16 st.caps.cabins ++ e16 st.caps.guests ++ e16 st.caps.folios ++ e16 st.caps.cards
        ++ e16 st.caps.units ++ e16 (24576 - st.caps.units)
        ++ (List.finRange 20).flatMap (fun k => e16 (cell st.deckMap k).deck ++ e16 (cell st.deckMap k).first
            ++ e16 (cell st.deckMap k).count ++ e16 (st.base k.val))
        ++ e16 st.cabinCount
        ++ (List.finRange 4).flatMap (fun n => eOpt s.draws 4 (fun r : DeckRange => e16 r.low ++ e16 r.high)
            (cell st.laneDecks n))))
    ∧ (s.HasRecords → exec (.readOverrides f) s = .next (s.answered 0x43 f .done
      ((List.finRange 8).flatMap (fun n => match cell s.cabin.overrides n with
        | none => e8 0
        | some x => e8 1 ++ eCode x.code
            ++ (match x.action with
                | .denyAll => e8 0
                | .serviceOnly => e8 1
                | .admitOne serial => e8 2 ++ e32 serial)
            ++ flag x.enable ++ (if x.enable then e16 x.index else [])))))
    ∧ exec (.readCurrencies f) s = .next (s.answered 0x57 f .done
      ((List.finRange 8).flatMap (fun k => flag (cell s.folio.currencies k).enabled
        ++ e32 (cell s.folio.currencies k).live ++ eOpt s.draws 4 e32 (cell s.folio.currencies k).staged)))
    ∧ exec (.readTallies f) s = .next (s.answered 0x74 f .done
      (e16 t.expected ++ e16 t.aboard ++ e16 t.ashore ++ e16 t.departed
        ++ e16 (t.expected + t.aboard + t.ashore + t.departed)
        ++ (List.finRange 16).flatMap (fun x => e16 (cell t.aboardAt x))
        ++ (List.finRange 16).flatMap (fun x => e16 (cell t.unmustered x))
        ++ e8 t.epoch ++ flag s.mode.muster ++ e16 t.stations.toNat
        ++ (List.finRange 8).flatMap (fun n =>
            e8 (match (cell t.gangways n).state with | .opened => 0 | .inboundOnly => 1 | .closed => 2)
              ++ e16 (cell t.gangways n).guard)
        ++ (List.finRange 2).flatMap (fun n =>
            e8 (match (cell t.watches n).source with
              | .aboardTotal => 0 | .ashoreTotal => 1 | .expectedTotal => 2 | .stationAboard => 3
              | .unmusteredTotal => 4)
              ++ e16 (cell t.watches n).station.val ++ e16 (cell t.watches n).value ++ mark (cell t.watches n).armed
              ++ e16 (t.sourceCount (cell t.watches n)))
        ++ e16 t.groupEnable.toNat ++ e16 t.groupPending.toNat ++ e32 c.voyage))
    ∧ exec (.readModes f) s = .next (s.answered 0x87 f .done
      (flag s.mode.muster ++ flag s.mode.lockdown ++ flag s.mode.charging
        ++ (List.finRange 4).flatMap (fun n => flag (s.inputAt n).enabled
            ++ e8 (match (s.inputAt n).active with | .high => 0 | .low => 1)
            ++ e8 (match (s.inputAt n).role with | .none => 0 | .muster => 1 | .lockdown => 2 | .chargeStop => 3)
            ++ mark (s.inputAt n).asserted ++ e8 (match (s.inputAt n).line with | .high => 0 | .low => 1)
            ++ mark (s.inputAt n).interval.isSome)
        ++ e8 t.epoch ++ flag t.complete ++ e16 t.stations.toNat))
    ∧ exec (.readClock f) s = .next (s.answered 0x93 f .done
      (flag c.running ++ e32 c.voyage ++ e16 c.second ++ e16 c.minute ++ e16 c.day ++ e16 c.rollover
        ++ e32 c.lastRollover ++ e32 (72000 - (c.voyage - c.lastRollover))
        ++ e16 ((List.finRange 8).countP (fun k => (cell s.folio.currencies k).staged.isSome))
        ++ e16 (s.folio.outlets.countP (fun e => e.2.staged.isSome))))
    ∧ exec (.readLanes f) s = .next (s.answered 0xA5 f .done
      (flag s.field.running
        ++ (List.finRange 4).flatMap (fun n => e16 (s.laneAt n).queue.length
            ++ flag (decide ((s.laneAt n).queue.length < 8))
            ++ e8 (match (s.laneAt n).transmitter with | .idle => 0 | .sending _ => 1)
            ++ e16 (s.laneAt n).busy.length
            ++ eOpt s.draws 4 (fun r : DeckRange => e16 r.low ++ e16 r.high) (cell st.laneDecks n))))
    ∧ exec (.readNotices f) s = .next (s.answered 0xB2 f .done
      (e16 u.flags.toNat ++ e8 (u.laneBits.toNat + 16 * u.inputBits.toNat) ++ e16 t.groupPending.toNat
        ++ e16 u.enables.toNat ++ e8 (match u.routing with | .single => 0 | .split => 1)
        ++ e8 (match u.polarity0 with | .activeHigh => 0 | .activeLow => 1)
        ++ e8 (match u.polarity1 with | .activeHigh => 0 | .activeLow => 1) ++ mark u.atn0 ++ mark u.atn1))

/-- The nine reads that name a record answer DONE with its items and change nothing. The model's choices in it
are those of log entries 2, 10, 14, 23, 25, 37 and 40. -/
def Obligations.ReadsOfOneRecord : Prop :=
  ∀ (s : State) (tag : Byte), s.SlotEmpty →
    let card : Card → List Byte := fun c =>
      e32 c.serial ++ e8 c.issue
        ++ (match c.holder with | .guest _ => e8 0 | .service _ => e8 1 | .officer => e8 2)
        ++ (match c.state with | .active => e8 0 | .suspended => e8 1)
        ++ (match c.holder with | .guest i => e16 i | .service r => e16 r.low ++ e16 r.high | .officer => [])
        ++ e16 c.validFrom ++ eOpt s.draws 2 e16 c.validTo
    let slotState : Nat → List Byte := fun k =>
      match s.cardSlotAt k with | none => e8 0 | some (.inUse _) => e8 1 | some .retired => e8 2
    let counts : List Byte := e16 s.cards.inUseCount ++ e16 s.cards.retiredCount
      ++ e16 (s.store.caps.cards - s.cards.inUseCount - s.cards.retiredCount)
    let flag : Bool → List Byte := fun b => e8 (if b then 0 else 1)
    let presence : Presence → List Byte := fun p =>
      e8 (match p with | .expected => 0 | .aboard => 1 | .ashore => 2 | .departed => 3)
    let window : Option Window → List Byte := eOpt s.draws 4 (fun w => e16 w.start ++ e16 w.stop)
    (s.HasRecords →
    (∀ k : Nat, k < 4294967296 →
      let f := frameOf tag (e8 0 ++ e32 k)
      (k < s.store.caps.cards → exec (.readCard f) s = .next (s.answered 0x25 f .done
        (slotState k
          ++ (match s.cardSlotAt k with
              | some (.inUse c) => card c ++ e16 (homeSlot s.store.caps.cards c.serial)
              | _ => [])
          ++ counts)))
      ∧ (s.store.caps.cards ≤ k → exec (.readCard f) s = .next (s.answered 0x25 f .range [])))
    ∧ (∀ serial : Nat, serial < 4294967296 →
      let f := frameOf tag (e8 1 ++ e32 serial)
      (∀ (k : Nat) (c : Card), s.lookupCard serial = some (k, c) →
        exec (.readCard f) s = .next (s.answered 0x25 f .done
          (e16 k ++ e16 (homeSlot s.store.caps.cards serial) ++ card c ++ counts)))
      ∧ (s.lookupCard serial = none → exec (.readCard f) s = .next (s.answered 0x25 f .notFound
          (e16 (homeSlot s.store.caps.cards serial)
            ++ (probeWindow s.store.caps.cards serial).flatMap slotState))))
    ∧ (∀ (reference k : Nat) (g : Guest), 1 ≤ reference → reference < 4294967296 →
      s.roster.guests.find? (fun e => e.2.reference == reference) = some (k, g) →
      let f := frameOf tag (e32 reference)
      exec (.lookupGuest f) s = .next (s.answered 0x34 f .done (e16 k ++ presence g.presence)))
    ∧ (∀ reference : Nat, reference < 4294967296 → (∀ e ∈ s.roster.guests, e.2.reference ≠ reference) →
      let f := frameOf tag (e32 reference)
      exec (.lookupGuest f) s = .next (s.answered 0x34 f (if reference = 0 then .range else .notFound) []))
    ∧ (∀ k : Nat, k < 65536 → (s.store.caps.guests ≤ k ∨ s.guestAt k = none) →
      let f := frameOf tag (e16 k)
      exec (.readGuest f) s = .next (s.answered 0x35 f .notFound []))
    ∧ (∀ (k : Nat) (g : Guest), k < 65536 → k < s.store.caps.guests → s.guestAt k = some g →
      let f := frameOf tag (e16 k)
      let day := s.clock.day
      let effective := if g.spendDay = day then g.spent else 0
      exec (.readGuest f) s = .next (s.answered 0x35 f .done
        (e32 g.reference ++ (match g.band with | .adult => e8 0 | .youth => e8 1 | .child => e8 2)
          ++ flag g.mayCharge ++ e16 g.station.val ++ flag g.watch
          ++ eOpt s.draws 5 (fun i => e16 i ++ eCode (s.store.codeOfIndex i)) g.cabin
          ++ eOpt s.draws 2 e16 g.folio ++ eOpt s.draws 4 e32 g.dayLimit
          ++ e16 g.cards.length ++ g.cards.flatMap e32 ++ presence g.presence ++ e8 g.epoch
          ++ eOpt s.draws 4 e32 g.lastPass ++ e16 g.spendDay ++ e32 g.spent ++ e32 effective
          ++ eOpt s.draws 4 e32 (g.dayLimit.map (fun l => l - effective - g.held)) ++ e32 g.held
          ++ e16 s.roster.enrolled)))
    ∧ (∀ (start : Nat) (presence : Option Presence) (station : Option (Fin 16)) (code : Option CabinCode)
        (folio : Option Nat), start < 65536 → (∀ x ∈ folio, x < 65536) →
      let f := frameOf tag (e16 start
        ++ givenOr 0 (e8 0) (fun x : Presence =>
            e8 (match x with | .expected => 0 | .aboard => 1 | .ashore => 2 | .departed => 3)) presence
        ++ givenOr 0 (e16 0) (fun x : Fin 16 => e16 x.val) station ++ givenOr 0 (eCode 0) eCode code
        ++ givenOr 0 (e16 0) e16 folio)
      (s.store.caps.guests < start ∨ (∃ x ∈ folio, s.store.caps.folios ≤ x) →
        exec (.findGuests f) s = .next (s.answered 0x36 f .range []))
      ∧ (start ≤ s.store.caps.guests → (∀ x ∈ folio, x < s.store.caps.folios) →
        ((∃ c ∈ code, s.store.decode c = none) →
          exec (.findGuests f) s = .next (s.answered 0x36 f .badCabin []))
        ∧ ((∀ c ∈ code, s.store.decode c ≠ none) →
          let matching : Guest → Bool := fun g =>
            presence.all (fun x => g.presence == x) && station.all (fun x => g.station == x)
              && code.all (fun c => g.cabin == (s.store.decode c).map Prod.snd)
              && folio.all (fun x => g.folio == some x)
          let found := ((s.roster.guests.filter (fun e => decide (start ≤ e.1) && matching e.2)).map Prod.fst).take 16
          let next := if found.length = 16 ∧ found.getLastD 0 < s.store.caps.guests - 1
            then some (found.getLastD 0 + 1) else none
          exec (.findGuests f) s = .next (s.answered 0x36 f .done
            (e16 found.length ++ found.flatMap e16 ++ eOpt s.draws 2 e16 next ++ e16 s.roster.enrolled)))))
    ∧ (let read : Nat → List Byte := fun i =>
        let c := s.cabinAt i
        e16 i ++ eCode (s.store.codeOfIndex i) ++ e16 ((s.store.deckRoom i).getD (0, 0)).1
          ++ e16 ((s.store.deckRoom i).getD (0, 0)).2
          ++ e16 c.occupants.length ++ c.occupants.flatMap e16 ++ flag c.privacy ++ flag c.outOfOrder
          ++ window c.window ++ e16 s.clock.minute
          ++ e8 (if insideWindow c.window s.clock.minute then 1 else 0)
          ++ (match s.activeOverride i with
              | none => e8 0
              | some (n, o) => e8 1 ++ e8 n.val ++ (match o.action with
                  | .denyAll => e8 0 | .serviceOnly => e8 1 | .admitOne serial => e8 2 ++ e32 serial))
      (∀ i : Nat, i < 4294967296 →
        let f := frameOf tag (e8 0 ++ e32 i)
        (i < s.store.cabinCount → exec (.readCabin f) s = .next (s.answered 0x44 f .done (read i)))
        ∧ (s.store.cabinCount ≤ i → exec (.readCabin f) s = .next (s.answered 0x44 f .range [])))
      ∧ ∀ c : CabinCode,
        let f := frameOf tag (e8 1 ++ e32 c.toNat)
        (∀ deck i, s.store.decode c = some (deck, i) →
          exec (.readCabin f) s = .next (s.answered 0x44 f .done (read i)))
        ∧ (s.store.decode c = none → exec (.readCabin f) s = .next (s.answered 0x44 f .badCabin [])))
    ∧ (let read : Nat → Folio → List Byte := fun k x =>
        e16 k ++ e32 x.number ++ (match x.state with | .opened => e8 1 | .frozen => e8 2 | .closed => e8 3)
          ++ e32 x.credit ++ eInt x.balance ++ e32 x.held ++ eInt (x.credit - x.balance - x.held) ++ e16 x.members
          ++ e16 x.holds.length ++ x.holds.flatMap (fun h =>
              e8 h ++ e8 (s.holdAt h).generation.toNat ++ e32 (s.holdAt h).amount)
      (∀ k : Nat, k < 4294967296 →
        let f := frameOf tag (e8 0 ++ e32 k)
        (∀ x : Folio, k < s.store.caps.folios → s.folioAt k = some x →
          exec (.readFolio f) s = .next (s.answered 0x55 f .done (read k x)))
        ∧ (s.store.caps.folios ≤ k ∨ s.folioAt k = none →
          exec (.readFolio f) s = .next (s.answered 0x55 f .notFound [])))
      ∧ ∀ number : Nat, number < 4294967296 →
        let f := frameOf tag (e8 1 ++ e32 number)
        (∀ (k : Nat) (x : Folio), s.folio.folios.find? (fun e => e.2.number == number) = some (k, x) →
          exec (.readFolio f) s = .next (s.answered 0x55 f .done (read k x)))
        ∧ ((∀ e ∈ s.folio.folios, e.2.number ≠ number) →
          exec (.readFolio f) s = .next (s.answered 0x55 f .notFound [])))
    ∧ (∀ k : Nat, k < 256 →
      let f := frameOf tag (e8 k)
      let x := s.holdAt k
      let record : Hold → List Byte := fun h =>
        e16 h.folio ++ e16 h.guest ++ e16 h.outlet.val ++ e32 h.amount ++ e32 h.expiry
      let active := s.hold.slots.countP (fun e => e.2.activeHold.isSome)
      let lapsed := s.hold.slots.countP (fun e => e.2.isLapsed)
      exec (.readHold f) s = .next (s.answered 0x61 f .done
        ((match x.status with | .free => e8 0 | .active _ => e8 1 | .lapsed _ => e8 2) ++ e8 x.generation.toNat
          ++ (match x.status with
              | .free => []
              | .active h => record h ++ e32 (h.expiry - s.clock.voyage)
              | .lapsed h => record h ++ e16 (s.hold.lapsed.idxOf k))
          ++ e16 (256 - active - lapsed) ++ e16 active ++ e16 lapsed))))
    ∧ (∀ k : Nat, k < 64 →
      let f := frameOf tag (e16 k)
      let o := s.outletAt k
      exec (.readOutlet f) s = .next (s.answered 0x59 f .done
        (flag o.isOpen ++ e8 o.gratuity ++ eOpt s.draws 1 e8 o.staged ++ e16 o.lifetime ++ e8 o.overrun
          ++ flag o.alcohol)))
    ∧ (∀ k : Nat, 64 ≤ k → k < 65536 →
      let f := frameOf tag (e16 k)
      exec (.readOutlet f) s = .next (s.answered 0x59 f .range []))
    ∧ (∀ start : Nat, 256 < start → start < 65536 →
      let f := frameOf tag (e16 start)
      exec (.readPosts f) s = .next (s.answered 0xA4 f .range []))
    ∧ ∀ start : Nat, start ≤ 256 →
      let f := frameOf tag (e16 start)
      let found := (s.field.posts.filter (fun e => decide (start ≤ e.1))).take 16
      let last := (found.map Prod.fst).getLastD 0
      let next := if found.length = 16 ∧ last < 255 then some (last + 1) else none
      exec (.readPosts f) s = .next (s.answered 0xA4 f .done
        (e16 found.length
          ++ found.flatMap (fun e => e16 e.1 ++ e16 e.2.lane.val ++ e16 e.2.terminal.toNat ++ (match e.2.kind with
              | .till outlet => e8 0 ++ e16 outlet.val
              | .gate gangway direction => e8 1 ++ e16 gangway.val
                  ++ (match direction with | .toggle => e8 0 | .outbound => e8 1 | .inbound => e8 2)
              | .musterReader station => e8 2 ++ e16 station.val))
          ++ eOpt s.draws 2 e16 next ++ e16 s.field.posts.length))

/-- CONFIGURE_STORE, LOCK_VOYAGE and END_VOYAGE move the part state; two of them scrub. The whole state is
given, so what is not named is kept. -/
def Obligations.PartStateCommands : Prop :=
  ∀ (s : State) (tag : Byte), s.SlotEmpty →
    (∀ r : Capacities, s.store.part ≠ .inVoyage → r.cabins < 65536 → r.guests < 65536 → r.folios < 65536 →
      r.cards < 65536 →
      let f := frameOf tag (e16 r.cabins ++ e16 r.guests ++ e16 r.folios ++ e16 r.cards)
      let empty : Prop := s.roster.guests = [] ∧ (∀ e ∈ s.cards.slots, e.2 = .retired) ∧ s.folio.folios = []
      ((s.store.part = .setup → empty) → ∀ g : Capacities, grantAll r = some g →
        exec (.configureStore f) s = .next ((s.scrubbed { s.store with
            part := .setup, caps := g, deckMap := Vector.replicate 20 ⟨0, 0, 0⟩ }).withheld 0x10 f
          (e16 g.cabins ++ e16 g.guests ++ e16 g.folios ++ e16 g.cards)))
      ∧ ((s.store.part = .setup → empty) → grantAll r = none →
        exec (.configureStore f) s = .next (s.answered 0x10 f .capacity []))
      ∧ (s.store.part = .setup → ¬ empty → exec (.configureStore f) s = .next (s.answered 0x10 f .notEmpty [])))
    ∧ (let f := frameOf tag []
      (s.store.part = .setup → s.store.cabinCount ≠ 0 →
        exec (.lockVoyage f) s
          = .next ({ s with store := { s.store with part := .inVoyage } }.answered 0x12 f .done []))
      ∧ (s.store.part = .setup → s.store.cabinCount = 0 →
        exec (.lockVoyage f) s = .next (s.answered 0x12 f .notFound []))
      ∧ (s.store.part = .inVoyage →
        let settled : Prop := ∀ e ∈ s.folio.folios, e.2.state = .closed
        let gone : Prop := ∀ e ∈ s.roster.guests, e.2.presence ≠ .aboard ∧ e.2.presence ≠ .ashore
        let free : Prop := ∀ e ∈ s.hold.slots, e.2.activeHold = none
        (settled → gone → free → s.mode.muster = false →
          exec (.endVoyage f) s = .next ((s.scrubbed { s.store with part := .setup }).withheld 0x13 f []))
        ∧ (¬ settled → exec (.endVoyage f) s = .next (s.answered 0x13 f .unsettled []))
        ∧ (settled → ¬ gone → exec (.endVoyage f) s = .next (s.answered 0x13 f .aboard []))
        ∧ (settled → gone → ¬ free → exec (.endVoyage f) s = .next (s.answered 0x13 f .holdsPending []))
        ∧ (settled → gone → free → s.mode.muster = true →
          exec (.endVoyage f) s = .next (s.answered 0x13 f .mode []))))

/-- Each grant is the largest its table, its request and the units left allow, and all fit 24,576 units. For
every request of four numbers, also above two bytes. -/
def Obligations.GrantsFitTheStore : Prop :=
  let sixtyFours : (request most per left granted : Nat) → Prop := fun request most per left granted =>
      IsGreatest {n : Nat | n % 64 = 0 ∧ 64 ≤ n ∧ n ≤ most ∧ n < max request 1 + 64 ∧ per * n ≤ left} granted
    let powers : (request left granted : Nat) → Prop := fun request left granted =>
      IsGreatest {n : Nat | n ∈ [1024, 2048, 4096, 8192, 16384] ∧ (n = 1024 ∨ n < 2 * request) ∧ n ≤ left} granted
    let granted : Capacities → Capacities → Prop := fun r g =>
      sixtyFours r.cabins 4096 2 24576 g.cabins
        ∧ sixtyFours r.guests 8192 2 (24576 - 2 * g.cabins) g.guests
        ∧ sixtyFours r.folios 4096 1 (24576 - 2 * g.cabins - 2 * g.guests) g.folios
        ∧ powers r.cards (24576 - 2 * g.cabins - 2 * g.guests - g.folios) g.cards
    (∀ r g : Capacities, grantAll r = some g ↔ granted r g)
    ∧ (∀ r : Capacities, grantAll r = none ↔ ∀ g : Capacities, ¬ granted r g)
    ∧ ∀ r g : Capacities, grantAll r = some g →
    2 * g.cabins + 2 * g.guests + g.folios + g.cards ≤ 24576
    ∧ g.cabins % 64 = 0 ∧ 64 ≤ g.cabins ∧ g.cabins ≤ 4096 ∧ g.cabins < max r.cabins 1 + 64
    ∧ g.guests % 64 = 0 ∧ 64 ≤ g.guests ∧ g.guests ≤ 8192 ∧ g.guests < max r.guests 1 + 64
    ∧ g.folios % 64 = 0 ∧ 64 ≤ g.folios ∧ g.folios ≤ 4096 ∧ g.folios < max r.folios 1 + 64
    ∧ g.cards ∈ [1024, 2048, 4096, 8192, 16384] ∧ g.cards ≤ max 1024 (2 * r.cards)

/-- SET_DECK writes one slot and empties the cabin records; SET_LANE_DECKS writes one range. The whole state is
given, so what is not named is kept. The width of the room count is log entry 25. -/
def Obligations.DeckMapAndLaneRanges : Prop :=
  ∀ (s : State) (tag : Byte), s.SlotEmpty → s.store.part = .setup →
    (∀ (k : Fin 20) (deck first count : Nat), deck < 65536 → first < 65536 → count ≤ 999 →
      (count ≠ 0 → 1 ≤ deck ∧ deck ≤ 20 ∧ first + count ≤ 1000) → s.roster.guests = [] →
      (∀ n : Fin 8, ∀ o ∈ cell s.cabin.overrides n, o.enable = false) →
      (count ≠ 0 → ∀ m : Fin 20, m ≠ k → (cell s.store.deckMap m).count ≠ 0 →
        (cell s.store.deckMap m).deck ≠ deck) →
      let f := frameOf tag (e8 k.val ++ e16 deck ++ e16 first ++ e16 count)
      let st := { s.store with
        deckMap := putCell s.store.deckMap k (if count = 0 then ⟨0, 0, 0⟩ else ⟨deck, first, count⟩) }
      st.cabinCount ≤ s.store.caps.cabins →
      exec (.setDeck f) s
        = .next ({ s with store := st, cabin := { s.cabin with cabins := [] } }.answered 0x14 f .done []))
    ∧ (∀ slot deck first count : Nat, slot < 256 → deck < 65536 → first < 65536 → count < 65536 →
      let f := frameOf tag (e8 slot ++ e16 deck ++ e16 first ++ e16 count)
      let refused : Result → Prop := fun r => exec (.setDeck f) s = .next (s.answered 0x14 f r [])
      let valid : Prop := count ≤ 999 ∧ (count ≠ 0 → 1 ≤ deck ∧ deck ≤ 20 ∧ first + count ≤ 1000)
      let disabled : Prop := ∀ n : Fin 8, ∀ o ∈ cell s.cabin.overrides n, o.enable = false
      (19 < slot ∨ ¬ valid → refused .range)
      ∧ ∀ k : Fin 20, k.val = slot → valid →
        let held : Prop := count ≠ 0 ∧ ∃ m : Fin 20, m ≠ k ∧ (cell s.store.deckMap m).count ≠ 0
          ∧ (cell s.store.deckMap m).deck = deck
        (s.roster.guests ≠ [] → refused .notEmpty)
        ∧ (s.roster.guests = [] → ¬ disabled → refused .locked)
        ∧ (s.roster.guests = [] → disabled → held → refused .duplicate)
        ∧ (s.roster.guests = [] → disabled → ¬ held →
          s.store.caps.cabins < { s.store with
            deckMap := putCell s.store.deckMap k (if count = 0 then ⟨0, 0, 0⟩ else ⟨deck, first, count⟩) }.cabinCount →
          refused .capacity))
    ∧ (∀ lane low high : Nat, lane < 65536 → low < 65536 → high < 65536 →
      3 < lane ∨ ¬ ((low = 0 ∧ high = 0) ∨ (1 ≤ low ∧ low ≤ high ∧ high ≤ 20)) →
      let f := frameOf tag (e16 lane ++ e16 low ++ e16 high)
      exec (.setLaneDecks f) s = .next (s.answered 0x15 f .range []))
    ∧ ∀ (n : Fin 4) (low high : Nat), (low = 0 ∧ high = 0) ∨ (1 ≤ low ∧ low ≤ high ∧ high ≤ 20) →
      let f := frameOf tag (e16 n.val ++ e16 low ++ e16 high)
      exec (.setLaneDecks f) s = .next ({ s with store := { s.store with
        laneDecks := putCell s.store.laneDecks n (if low = 0 then none else some ⟨low, high⟩) } }.answered
          0x15 f .done [])

/-- Cabin codes and cabin indices name each other, one to one. The deck maps that SET_DECK leaves are
`Store.DeckMapSound`. -/
def Obligations.CabinCodesNameIndices : Prop :=
  ∀ st : Store, st.DeckMapSound →
    (∀ i, i < st.cabinCount → ∃ deck room, st.deckRoom i = some (deck, room)
      ∧ st.decode (st.codeOfIndex i) = some (deck, i))
    ∧ (∀ (c : CabinCode) (deck i : Nat), st.decode c = some (deck, i) →
      i < st.cabinCount ∧ st.codeOfIndex i = c ∧ ∃ room, st.deckRoom i = some (deck, room))
    ∧ (∀ (c : CabinCode) (k : Nat), k < 5 → 9 < (c >>> (4 * k)).toNat % 16 → st.decode c = none)
    ∧ st.cabinCount = ((List.finRange 20).map (fun m => (cell st.deckMap m).count)).sum
    ∧ ∀ (c : CabinCode) (deck i : Nat),
      let digit : Nat → Nat := fun k => (c >>> (4 * k)).toNat % 16
      let room : Nat := 100 * digit 2 + 10 * digit 1 + digit 0
      st.decode c = some (deck, i) ↔ (∀ k, k < 5 → digit k ≤ 9) ∧ deck = 10 * digit 4 + digit 3
        ∧ ∃ k : Fin 20, (cell st.deckMap k).count ≠ 0 ∧ (cell st.deckMap k).deck = deck
          ∧ (cell st.deckMap k).first ≤ room ∧ room < (cell st.deckMap k).first + (cell st.deckMap k).count
          ∧ i = (((List.finRange 20).filter (fun m => m < k)).map (fun m => (cell st.deckMap m).count)).sum
            + (room - (cell st.deckMap k).first)

/-- A lookup walks the window of a serial; ISSUE_CARD takes its first FREE or RETIRED slot. The whole state is
given, so what is not named is kept. -/
def Obligations.IssueCardPlaces : Prop :=
  (∀ c serial : Nat, c ∈ [1024, 2048, 4096, 8192, 16384] →
      let home := serial * 2654435769 % 4294967296 / (4294967296 / c)
      homeSlot c serial = home ∧ home < c
        ∧ probeWindow c serial = [home, (home + 1) % c, (home + 2) % c, (home + 3) % c, (home + 4) % c, (home + 5) % c,
            (home + 6) % c, (home + 7) % c])
    ∧ (∀ (s : State) (serial k : Nat) (c : Card), s.lookupCard serial = some (k, c) ↔
      ∃ before after : List Nat, probeWindow s.store.caps.cards serial = before ++ k :: after
        ∧ s.cardSlotAt k = some (.inUse c) ∧ c.serial = serial
        ∧ ∀ i ∈ before, s.cardSlotAt i ≠ none ∧ ∀ d, s.cardSlotAt i = some (.inUse d) → d.serial ≠ serial)
    ∧ (∀ (s : State) (tag : Byte) (serial issue cls guest low high first marker last : Nat), s.SlotEmpty → s.HasRecords →
      serial < 4294967296 → issue < 256 → cls < 256 → guest < 65536 → low < 65536 → high < 65536 → first < 65536 →
      marker < 256 → last < 65536 →
      let f := frameOf tag (e32 serial ++ e8 issue ++ e8 cls ++ e16 guest ++ e16 low ++ e16 high ++ e16 first
        ++ e8 marker ++ e16 last)
      let refused : Result → Prop := fun r => exec (.issueCard f) s = .next (s.answered 0x20 f r [])
      let valid : Prop := serial ≠ 0 ∧ cls ≤ 2 ∧ marker ≤ 1 ∧ first ≤ 999
        ∧ (marker = 1 → first ≤ last ∧ last ≤ 999) ∧ (cls = 1 → 1 ≤ low ∧ low ≤ high ∧ high ≤ 20)
      let named : Option Guest := if guest < s.store.caps.guests then s.guestAt guest else none
      (¬ valid → refused .range)
      ∧ (valid → cls = 0 →
        (named = none → refused .notFound)
        ∧ ∀ g, named = some g →
          (g.presence = .departed → refused .wrongState)
          ∧ (g.presence ≠ .departed → 4 ≤ g.cards.length → refused .limit))
      ∧ (valid → (cls = 0 → ∃ g, named = some g ∧ g.presence ≠ .departed ∧ g.cards.length < 4) →
        (s.lookupCard serial ≠ none → refused .duplicate)
        ∧ (s.lookupCard serial = none →
          (∀ j ∈ probeWindow s.store.caps.cards serial, ∃ c, s.cardSlotAt j = some (.inUse c)) →
          refused .crowded)))
    ∧ ∀ (s : State) (tag : Byte) (serial issue guest low high first : Nat) (last : Option Nat) (junk : Nat) (k : Nat),
    s.SlotEmpty → s.HasRecords → 1 ≤ serial → serial < 4294967296 → issue < 256 → guest < 65536 → low < 65536 →
    high < 65536 → first ≤ 999 → (∀ d ∈ last, first ≤ d ∧ d ≤ 999) → s.lookupCard serial = none →
    (probeWindow s.store.caps.cards serial).find? (fun j =>
      decide (s.cardSlotAt j = none ∨ s.cardSlotAt j = some .retired)) = some k →
    let payload : Nat → List Byte := fun cls =>
      e32 serial ++ e8 issue ++ e8 cls ++ e16 guest ++ e16 low ++ e16 high ++ e16 first
        ++ givenOr 0 (e16 junk) e16 last
    let placed : Holder → CardTable := fun h =>
      ⟨Table.put s.cards.slots k (.inUse ⟨serial, issue, h, .active, first, last⟩), s.cards.inUseCount + 1,
        if s.cardSlotAt k = some .retired then s.cards.retiredCount - 1 else s.cards.retiredCount⟩
    let data : List Byte := e16 k ++ e16 (homeSlot s.store.caps.cards serial)
    (∀ g, guest < s.store.caps.guests → s.guestAt guest = some g → g.presence ≠ .departed → g.cards.length < 4 →
      exec (.issueCard (frameOf tag (payload 0))) s = .next ({ s with
        cards := placed (.guest guest)
        roster := { s.roster with
          guests := Table.put s.roster.guests guest { g with cards := g.cards ++ [serial] } } }.answered
          0x20 (frameOf tag (payload 0)) .done data))
    ∧ (1 ≤ low → low ≤ high → high ≤ 20 →
      exec (.issueCard (frameOf tag (payload 1))) s
        = .next ({ s with cards := placed (.service ⟨low, high⟩) }.answered
          0x20 (frameOf tag (payload 1)) .done data))
    ∧ exec (.issueCard (frameOf tag (payload 2))) s
        = .next ({ s with cards := placed .officer }.answered 0x20 (frameOf tag (payload 2)) .done data)

/-- REISSUE, SUSPEND, RESTORE and RETIRE_CARD change one card and nothing else. The whole state is given, so
what is not named is kept. -/
def Obligations.CardCommandsOnOneCard : Prop :=
  ∀ (s : State) (tag : Byte) (serial k : Nat) (c : Card), s.SlotEmpty → s.HasRecords → serial < 4294967296 →
    let f := frameOf tag (e32 serial)
    (s.lookupCard serial = none →
      exec (.reissueCard f) s = .next (s.answered 0x21 f .notFound [])
      ∧ exec (.suspendCard f) s = .next (s.answered 0x22 f .notFound [])
      ∧ exec (.restoreCard f) s = .next (s.answered 0x23 f .notFound [])
      ∧ exec (.retireCard f) s = .next (s.answered 0x24 f .notFound []))
    ∧ (s.lookupCard serial = some (k, c) →
    let kept : Card → State := fun x =>
      { s with cards := { s.cards with slots := Table.put s.cards.slots k (.inUse x) } }
    (c.issue < 255 → exec (.reissueCard f) s
      = .next ((kept { c with issue := c.issue + 1 }).answered 0x21 f .done (e8 (c.issue + 1))))
    ∧ (c.issue = 255 → exec (.reissueCard f) s = .next (s.answered 0x21 f .limit []))
    ∧ exec (.suspendCard f) s = .next ((kept { c with state := .suspended }).answered 0x22 f .done [])
    ∧ ((∀ i g, c.holder = .guest i → s.guestAt i = some g → g.presence ≠ .departed) →
      exec (.restoreCard f) s = .next ((kept { c with state := .active }).answered 0x23 f .done []))
    ∧ (∀ i g, c.holder = .guest i → s.guestAt i = some g → g.presence = .departed →
      exec (.restoreCard f) s = .next (s.answered 0x23 f .wrongState []))
    ∧ (let retired : CardTable :=
        ⟨Table.put s.cards.slots k .retired, s.cards.inUseCount - 1, s.cards.retiredCount + 1⟩
      (∀ i g, c.holder = .guest i → s.guestAt i = some g →
        exec (.retireCard f) s = .next ({ s with
          cards := retired
          roster := { s.roster with
            guests := Table.put s.roster.guests i { g with cards := g.cards.erase c.serial } } }.answered
            0x24 f .done (e16 k)))
      ∧ ((∀ i, c.holder ≠ .guest i) →
        exec (.retireCard f) s = .next ({ s with cards := retired }.answered 0x24 f .done (e16 k)))))

/-- A card resolution takes its five tests in order and returns the slot, serial, issue and class. The validity
days of R34 are inclusive; an absent last day is none. What is returned is that of R35. -/
def Obligations.ResolutionTestsInOrder : Prop :=
  ∀ (s : State) (p : Presentation),
    (s.lookupCard p.serial = none → s.resolve p = .error (.unknownCard, []))
    ∧ ∀ (k : Nat) (c : Card), s.lookupCard p.serial = some (k, c) →
      (p.issue < c.issue → s.resolve p = .error (.staleIssue, []))
      ∧ (c.issue < p.issue → s.resolve p = .error (.unknownCard, []))
      ∧ (p.issue = c.issue →
        (c.state = .suspended → s.resolve p = .error (.cardSuspended, []))
        ∧ (c.state = .active →
          (¬ (c.validFrom ≤ s.clock.day ∧ ∀ last ∈ c.validTo, s.clock.day ≤ last) →
            s.resolve p = .error (.cardNotValid, []))
          ∧ (c.validFrom ≤ s.clock.day → (∀ last ∈ c.validTo, s.clock.day ≤ last) →
            s.resolve p = .ok ⟨k, c.serial, c.issue, c.holder⟩)))

/-- ENROL_GUEST takes the lowest FREE index and gives the cabin, the folio and the tally their changes. The
evaluation of the watches is stated in TallyEvaluations. -/
def Obligations.EnrolGuestEffects : Prop :=
  (∀ (s : State) (tag : Byte) (reference : Nat) (code : Option CabinCode) (cabin folio limit : Option Nat)
    (band : AgeBand) (may : Option Bool) (station : Fin 16) (watch : Bool) (junk k : Nat),
    s.SlotEmpty → s.HasRecords → Table.wf s.roster.guests → 1 ≤ reference → reference < 4294967296 →
    (∀ f ∈ folio, f < 65536 ∧ f < s.store.caps.folios ∧ ∃ x, s.folioAt f = some x ∧ x.state = .opened) →
    (∀ l ∈ limit, l < 4294967296) → code.bind s.store.cabinIndex = cabin → code.isSome = cabin.isSome →
    (∀ e ∈ s.roster.guests, e.2.reference ≠ reference) → s.guestAt k = none → (∀ j, j < k → s.guestAt j ≠ none) →
    k < s.store.caps.guests → (∀ c ∈ cabin, (s.cabinAt c).occupants.length < 6) →
    let f := frameOf tag (e32 reference ++ givenOr 0 (eCode (BitVec.ofNat 20 junk)) eCode code
      ++ givenOr 0 (e16 junk) e16 folio ++ eEnum [AgeBand.adult, .youth, .child] band
      ++ eEnum [some true, some false, none] may ++ givenOr 0 (e32 junk) e32 limit ++ e16 station.val
      ++ eEnum [true, false] watch)
    let g : Guest := {
      reference := reference, cabin := cabin, folio := folio, band := band
      mayCharge := (match may with | some b => b | none => decide (band ≠ .child))
      dayLimit := limit.map (fun l => min l 10000000), station := station, watch := watch, cards := []
      presence := .expected, epoch := 0, lastPass := none, spendDay := s.clock.day, spent := 0, held := 0 }
    let joined : Nat → Cabin := fun c => { s.cabinAt c with occupants := (s.cabinAt c).occupants ++ [k] }
    let t : State := { s with
      roster := ⟨Table.put s.roster.guests k g, s.roster.enrolled + 1⟩
      cabin := (match cabin with
        | some c => { s.cabin with cabins := Table.putD s.cabin.cabins c (joined c) Cabin.empty }
        | none => s.cabin)
      folio := (match folio.bind (fun f => (s.folioAt f).map (fun x => (f, x))) with
        | some (f, x) => { s.folio with folios := Table.put s.folio.folios f { x with members := x.members + 1 } }
        | none => s.folio)
      tally := { s.tally with expected := s.tally.expected + 1 } }
    exec (.enrolGuest f) s = .next ((t.evaluateWatches s.tally).answered 0x30 f .done (e16 k)))
    ∧ ∀ (s : State) (tag : Byte) (reference folio limit station cabinMark folioMark limitMark band may watch : Nat)
        (code : CabinCode), s.SlotEmpty → s.HasRecords → Table.wf s.roster.guests → reference < 4294967296 →
      folio < 65536 → limit < 4294967296 → station < 65536 → cabinMark < 256 → folioMark < 256 → limitMark < 256 →
      band < 256 → may < 256 → watch < 256 →
      let f := frameOf tag (e32 reference ++ e8 cabinMark ++ eCode code ++ e8 folioMark ++ e16 folio ++ e8 band
        ++ e8 may ++ e8 limitMark ++ e32 limit ++ e16 station ++ e8 watch)
      let refused : Result → Prop := fun r => exec (.enrolGuest f) s = .next (s.answered 0x30 f r [])
      let valid : Prop := reference ≠ 0 ∧ cabinMark ≤ 1 ∧ folioMark ≤ 1 ∧ limitMark ≤ 1
        ∧ (folioMark = 1 → folio < s.store.caps.folios) ∧ band ≤ 2 ∧ may ≤ 2 ∧ station ≤ 15 ∧ watch ≤ 1
      let decodes : Prop := cabinMark = 1 → s.store.decode code ≠ none
      let held : Prop := ∃ e ∈ s.roster.guests, e.2.reference = reference
      let full : Prop := ∀ k, k < s.store.caps.guests → s.guestAt k ≠ none
      let crowded : Prop := cabinMark = 1
        ∧ ∃ deck i, s.store.decode code = some (deck, i) ∧ 6 ≤ (s.cabinAt i).occupants.length
      let notOpen : Prop := folioMark = 1 ∧ ∀ x, s.folioAt folio = some x → x.state ≠ .opened
      (¬ valid → refused .range)
      ∧ (valid → (¬ decodes → refused .badCabin)
        ∧ (decodes → (held → refused .duplicate)
          ∧ (¬ held → (full → refused .capacity)
            ∧ (¬ full → (crowded → refused .limit) ∧ (¬ crowded → notOpen → refused .folioState)))))

/-- AMEND_GUEST changes the fields it carries; cabin, folio and station moves reach their owners. Clauses (1) to
(5) leave the other changeable fields "unchanged", clause (6) takes all eight at once; the evaluation of the
watches is stated in TallyEvaluations. -/
def Obligations.AmendGuestFields : Prop :=
  (∀ (s : State) (tag : Byte) (k junk : Nat) (g : Guest), s.SlotEmpty → s.HasRecords → k < 65536 →
    k < s.store.caps.guests → s.guestAt k = some g →
    let payload : Option Nat → Option (Option CabinCode) → Option (Option Nat) → Option AgeBand → Option Bool →
        Option (Option Nat) → Option Nat → Option Bool → List Byte :=
      fun reference code folio band may limit station watch =>
        e16 k ++ givenOr 2 (e32 junk) e32 reference ++ givenBoth (eCode (BitVec.ofNat 20 junk)) eCode code
          ++ givenBoth (e16 junk) e16 folio ++ givenOr 2 (e8 junk) (eEnum [AgeBand.adult, .youth, .child]) band
          ++ givenOr 2 (e8 junk) (eEnum [true, false]) may ++ givenBoth (e32 junk) e32 limit
          ++ givenOr 2 (e16 junk) e16 station ++ givenOr 2 (e8 junk) (eEnum [true, false]) watch
    let done : List Byte → State → Prop := fun p t =>
      exec (.amendGuest (frameOf tag p)) s = .next (t.answered 0x31 (frameOf tag p) .done [])
    let record : Guest → State := fun h =>
      { s with roster := { s.roster with guests := Table.put s.roster.guests k h } }
    let left : Nat → Cabin := fun c => { s.cabinAt c with
      occupants := (s.cabinAt c).occupants.erase k
      privacy := (s.cabinAt c).privacy && !((s.cabinAt c).occupants.erase k).isEmpty }
    (∀ (reference : Option Nat) (band : Option AgeBand) (may : Option Bool) (limit : Option (Option Nat))
      (watch : Option Bool), (∀ r ∈ reference, 1 ≤ r ∧ r < 4294967296 ∧ (r = g.reference ∨
        ∀ e ∈ s.roster.guests, e.2.reference ≠ r)) → (∀ l ∈ limit.join, l < 4294967296) →
      done (payload reference none none band may limit none watch) (record { g with
        reference := reference.getD g.reference, band := band.getD g.band, mayCharge := may.getD g.mayCharge
        dayLimit := (limit.map (Option.map (fun l => min l 10000000))).getD g.dayLimit
        watch := watch.getD g.watch }))
    ∧ (∀ (code : CabinCode) (c : Nat), s.store.cabinIndex code = some c → g.cabin ≠ some c →
      (s.cabinAt c).occupants.length < 6 →
      let old : Table Cabin := match g.cabin with
        | some b => Table.putD s.cabin.cabins b (left b) Cabin.empty
        | none => s.cabin.cabins
      let joined : Cabin := { s.cabinAt c with occupants := (s.cabinAt c).occupants ++ [k] }
      done (payload none (some (some code)) none none none none none none) { record { g with cabin := some c } with
        cabin := { s.cabin with cabins := Table.putD old c joined Cabin.empty } })
    ∧ (∀ b, g.cabin = some b → done (payload none (some none) none none none none none none)
        { record { g with cabin := none } with
          cabin := { s.cabin with cabins := Table.putD s.cabin.cabins b (left b) Cabin.empty } })
    ∧ (g.held = 0 → ∀ dropped : Table Folio,
      (g.folio = none → dropped = s.folio.folios) →
      (∀ a, g.folio = some a → ∃ x, s.folioAt a = some x ∧ dropped =
        if x.state = .closed ∧ x.members ≤ 1 then Table.erase s.folio.folios a
        else Table.put s.folio.folios a { x with members := x.members - 1 }) →
      (∀ (b : Nat) (y : Folio), b < 65536 → b < s.store.caps.folios → g.folio ≠ some b → s.folioAt b = some y →
        y.state = .opened →
        done (payload none none (some (some b)) none none none none none) { record { g with folio := some b } with
          folio := { s.folio with folios := Table.put dropped b { y with members := y.members + 1 } } })
      ∧ (g.folio ≠ none → done (payload none none (some none) none none none none none)
        { record { g with folio := none } with folio := { s.folio with folios := dropped } }))
    ∧ (∀ st : Fin 16, st ≠ g.station →
      let moved : Vector Nat 16 → Vector Nat 16 := fun v =>
        putCell (putCell v g.station (cell v g.station - 1)) st (cell v st + 1)
      let p : List Byte := payload none none none none none none (some st.val) none
      let t : State := { record { g with station := st } with
        tally := { s.tally with aboardAt := moved s.tally.aboardAt } }
      (g.presence ≠ .aboard → done p (record { g with station := st }))
      ∧ (g.presence = .aboard → s.mode.muster = false ∨ g.epoch = s.tally.epoch → done p (t.evaluateWatches s.tally))
      ∧ (g.presence = .aboard → s.mode.muster = true → g.epoch ≠ s.tally.epoch →
        done p ((State.evaluateCompletion { t with
          tally := { t.tally with unmustered := moved s.tally.unmustered } }).evaluateWatches s.tally)))
    ∧ ∀ (reference : Option Nat) (code : Option (Option CabinCode)) (folio : Option (Option Nat)) (band : Option AgeBand)
        (may : Option Bool) (limit : Option (Option Nat)) (station : Option (Fin 16)) (watch : Option Bool)
        (cabin : Option Nat) (dropped folios : Table Folio),
      let h : Guest := { g with
        reference := reference.getD g.reference, cabin := cabin, folio := folio.getD g.folio
        band := band.getD g.band, mayCharge := may.getD g.mayCharge
        dayLimit := (limit.map (Option.map (fun l => min l 10000000))).getD g.dayLimit
        station := station.getD g.station, watch := watch.getD g.watch }
      (∀ r ∈ reference, 1 ≤ r ∧ r < 4294967296 ∧ (r = g.reference ∨ ∀ e ∈ s.roster.guests, e.2.reference ≠ r)) →
      (∀ l ∈ limit.join, l < 4294967296) →
      (code = none → cabin = g.cabin) → (code = some none → cabin = none) →
      (∀ x, code = some (some x) → ∃ c, s.store.cabinIndex x = some c ∧ cabin = some c) →
      (∀ c, cabin = some c → g.cabin ≠ cabin → (s.cabinAt c).occupants.length < 6) →
      (∀ b, folio = some (some b) → b < 65536 ∧ b < s.store.caps.folios) →
      (h.folio ≠ g.folio → g.held = 0) →
      (h.folio = g.folio ∨ g.folio = none → dropped = s.folio.folios) →
      (h.folio ≠ g.folio → ∀ a, g.folio = some a → ∃ x, s.folioAt a = some x ∧ dropped =
        if x.state = .closed ∧ x.members ≤ 1 then Table.erase s.folio.folios a
        else Table.put s.folio.folios a { x with members := x.members - 1 }) →
      (h.folio = g.folio ∨ h.folio = none → folios = dropped) →
      (h.folio ≠ g.folio → ∀ b, h.folio = some b → ∃ y, s.folioAt b = some y ∧ y.state = .opened
        ∧ folios = Table.put dropped b { y with members := y.members + 1 }) →
      let old : Table Cabin := match g.cabin with
        | some b => Table.putD s.cabin.cabins b (left b) Cabin.empty
        | none => s.cabin.cabins
      let cabins : Table Cabin := if cabin = g.cabin then s.cabin.cabins else match cabin with
        | some c => Table.putD old c { s.cabinAt c with occupants := (s.cabinAt c).occupants ++ [k] } Cabin.empty
        | none => old
      let moved : Vector Nat 16 → Vector Nat 16 := fun v =>
        putCell (putCell v g.station (cell v g.station - 1)) h.station (cell v h.station + 1)
      let moves : Bool := decide (h.station ≠ g.station) && g.presence == .aboard
      let t : State := { record h with
        cabin := { s.cabin with cabins := cabins }, folio := { s.folio with folios := folios }
        tally := { s.tally with aboardAt := if moves then moved s.tally.aboardAt else s.tally.aboardAt } }
      done (payload reference code folio band may limit (station.map Fin.val) watch)
        ((if moves && s.mode.muster && decide (g.epoch ≠ s.tally.epoch) then State.evaluateCompletion { t with
          tally := { t.tally with unmustered := moved s.tally.unmustered } } else t).evaluateWatches s.tally))
    ∧ ∀ (s : State) (tag : Byte) (k reference folio band may limit station watch m1 m2 m3 m4 m5 m6 m7 m8 : Nat)
        (code : CabinCode), s.SlotEmpty → s.HasRecords → k < 65536 → reference < 4294967296 → folio < 65536 →
      band < 256 → may < 256 → limit < 4294967296 → station < 65536 → watch < 256 →
      (∀ m ∈ [m1, m2, m3, m4, m5, m6, m7, m8], m < 256) →
      let f := frameOf tag (e16 k ++ e8 m1 ++ e32 reference ++ e8 m2 ++ eCode code ++ e8 m3 ++ e16 folio ++ e8 m4
        ++ e8 band ++ e8 m5 ++ e8 may ++ e8 m6 ++ e32 limit ++ e8 m7 ++ e16 station ++ e8 m8 ++ e8 watch)
      let refused : Result → Prop := fun r => exec (.amendGuest f) s = .next (s.answered 0x31 f r [])
      let valid : Prop := (m1 = 2 ∨ (m1 = 1 ∧ reference ≠ 0)) ∧ m2 ≤ 2
        ∧ (m3 = 0 ∨ m3 = 2 ∨ (m3 = 1 ∧ folio < s.store.caps.folios)) ∧ (m4 = 2 ∨ (m4 = 1 ∧ band ≤ 2))
        ∧ (m5 = 2 ∨ (m5 = 1 ∧ may ≤ 1)) ∧ m6 ≤ 2 ∧ (m7 = 2 ∨ (m7 = 1 ∧ station ≤ 15)) ∧ (m8 = 2 ∨ (m8 = 1 ∧ watch ≤ 1))
      let decodes : Prop := m2 = 1 → s.store.decode code ≠ none
      (s.store.caps.guests ≤ k ∨ s.guestAt k = none → refused .notFound)
      ∧ ∀ g : Guest, k < s.store.caps.guests → s.guestAt k = some g →
        let folio' : Option Nat := if m3 = 2 then g.folio else if m3 = 1 then some folio else none
        let cabin' : Option Nat :=
          if m2 = 2 then g.cabin else if m2 = 1 then (s.store.decode code).map Prod.snd else none
        let held : Prop := m1 = 1 ∧ reference ≠ g.reference ∧ ∃ e ∈ s.roster.guests, e.2.reference = reference
        let bound : Prop := folio' ≠ g.folio ∧ g.held ≠ 0
        let notOpen : Prop := folio' ≠ g.folio ∧ m3 = 1 ∧ ∀ x, s.folioAt folio = some x → x.state ≠ .opened
        let crowded : Prop := cabin' ≠ g.cabin ∧ ∃ c, cabin' = some c ∧ 6 ≤ (s.cabinAt c).occupants.length
        (¬ valid → refused .range)
        ∧ (valid → (¬ decodes → refused .badCabin)
          ∧ (decodes → (held → refused .duplicate)
            ∧ (¬ held → (bound → refused .holdsPending)
              ∧ (¬ bound → (notOpen → refused .folioState) ∧ (¬ notOpen → crowded → refused .limit)))))

/-- DEPART_GUEST makes the guest DEPARTED, moves the totals and suspends every card of the guest. CardsSound is
kept by every step: see CardsStaySound; CompletionExact as part of TalliesSound: see TalliesStayExact. -/
def Obligations.DepartGuestSuspendsCards : Prop :=
  (∀ (s : State) (tag : Byte) (k : Nat), s.SlotEmpty → s.HasRecords → k < 65536 →
    let f := frameOf tag (e16 k)
    (s.store.caps.guests ≤ k ∨ s.guestAt k = none → exec (.departGuest f) s = .next (s.answered 0x32 f .notFound []))
    ∧ ∀ g : Guest, k < s.store.caps.guests → s.guestAt k = some g →
      (g.presence = .aboard → exec (.departGuest f) s = .next (s.answered 0x32 f .aboard []))
      ∧ (g.presence = .departed → exec (.departGuest f) s = .next (s.answered 0x32 f .wrongState [])))
    ∧ ∀ (s : State) (tag : Byte) (k : Nat) (g : Guest), s.SlotEmpty → s.HasRecords → s.CardsSound → k < 65536 →
    k < s.store.caps.guests → s.guestAt k = some g → g.presence = .expected ∨ g.presence = .ashore →
    let f := frameOf tag (e16 k)
    ∃ t : State, exec (.departGuest f) s = .next t
      ∧ t.guestAt k = some { g with presence := .departed } ∧ (∀ j, j ≠ k → t.guestAt j = s.guestAt j)
      ∧ t.roster.enrolled = s.roster.enrolled
      ∧ t.tally.departed = s.tally.departed + 1 ∧ t.tally.aboard = s.tally.aboard
      ∧ t.tally.expected = (if g.presence = .expected then s.tally.expected - 1 else s.tally.expected)
      ∧ t.tally.ashore = (if g.presence = .ashore then s.tally.ashore - 1 else s.tally.ashore)
      ∧ t.tally.aboardAt = s.tally.aboardAt ∧ t.tally.unmustered = s.tally.unmustered
      ∧ t.tally.epoch = s.tally.epoch ∧ t.tally.gangways = s.tally.gangways
      ∧ (∀ (j : Nat) (c : Card), s.cardAt j = some c →
        t.cardAt j = some (if c.serial ∈ g.cards then { c with state := .suspended } else c))
      ∧ (∀ j, s.cardAt j = none → t.cardSlotAt j = s.cardSlotAt j)
      ∧ t.cards.inUseCount = s.cards.inUseCount ∧ t.cards.retiredCount = s.cards.retiredCount
      ∧ t.link = ⟨.ready ⟨0x32, tag, .done, []⟩, List.replicate 5 0⟩
      ∧ t.store = s.store ∧ t.cabin = s.cabin ∧ t.folio = s.folio ∧ t.hold = s.hold ∧ t.mode = s.mode
      ∧ t.clock = s.clock ∧ t.field = s.field
      ∧ t.tally.stations = s.tally.stations ∧ t.tally.groupEnable = s.tally.groupEnable ∧ t.tally.groupPending = s.tally.groupPending
      ∧ (let fired : Fin 2 → Bool := fun n =>
          let w := cell s.tally.watches n
          w.armed && s.tally.sourceCount w != t.tally.sourceCount w && t.tally.sourceCount w == w.value
        (∀ n : Fin 2, cell t.tally.watches n
          = if fired n then { cell s.tally.watches n with armed := false } else cell s.tally.watches n)
        ∧ (s.CompletionExact → t.tally.complete = s.tally.complete ∧ t.notice = { s.notice with
          flags := s.notice.flags ||| 1#13 ||| (if fired 0 then 0x80#13 else 0) ||| (if fired 1 then 0x100#13 else 0) }))

/-- RETIRE_GUEST retires the cards, leaves the cabin and the folio, lowers the total and frees the index.
CardsSound and AssignmentsSound are kept by every step. The two bytes of the number of cards are the model's
choice, log entry 25. -/
def Obligations.RetireGuestFreesRecord : Prop :=
  (∀ (s : State) (tag : Byte) (k : Nat), s.SlotEmpty → s.HasRecords → k < 65536 →
    let f := frameOf tag (e16 k)
    (s.store.caps.guests ≤ k ∨ s.guestAt k = none → exec (.retireGuest f) s = .next (s.answered 0x33 f .notFound []))
    ∧ ∀ g : Guest, k < s.store.caps.guests → s.guestAt k = some g →
      (g.presence = .aboard → exec (.retireGuest f) s = .next (s.answered 0x33 f .aboard []))
      ∧ (g.presence ≠ .aboard → g.held ≠ 0 → exec (.retireGuest f) s = .next (s.answered 0x33 f .holdsPending [])))
    ∧ ∀ (s : State) (tag : Byte) (k : Nat) (g : Guest), s.SlotEmpty → s.HasRecords → s.CardsSound →
    s.AssignmentsSound → k < 65536 → k < s.store.caps.guests → s.guestAt k = some g → g.presence ≠ .aboard →
    g.held = 0 →
    let f := frameOf tag (e16 k)
    ∃ t : State, exec (.retireGuest f) s = .next t
      ∧ t.guestAt k = none ∧ (∀ j, j ≠ k → t.guestAt j = s.guestAt j) ∧ t.roster.enrolled = s.roster.enrolled - 1
      ∧ t.tally.expected = (if g.presence = .expected then s.tally.expected - 1 else s.tally.expected)
      ∧ t.tally.ashore = (if g.presence = .ashore then s.tally.ashore - 1 else s.tally.ashore)
      ∧ t.tally.departed = (if g.presence = .departed then s.tally.departed - 1 else s.tally.departed)
      ∧ t.tally.aboard = s.tally.aboard ∧ t.tally.aboardAt = s.tally.aboardAt
      ∧ t.tally.unmustered = s.tally.unmustered
      ∧ (∀ (j : Nat) (c : Card), s.cardAt j = some c →
        t.cardSlotAt j = some (if c.serial ∈ g.cards then .retired else .inUse c))
      ∧ (∀ j, s.cardAt j = none → t.cardSlotAt j = s.cardSlotAt j)
      ∧ (∀ c : Nat, (t.cabinAt c).occupants = (s.cabinAt c).occupants.erase k)
      ∧ (∀ c : Nat, (t.cabinAt c).window = (s.cabinAt c).window
        ∧ (t.cabinAt c).outOfOrder = (s.cabinAt c).outOfOrder
        ∧ (t.cabinAt c).privacy
          = ((s.cabinAt c).privacy && !(g.cabin == some c && ((s.cabinAt c).occupants.erase k).isEmpty)))
      ∧ (∀ (a : Nat) (x : Folio), s.folioAt a = some x → t.folioAt a =
        if g.folio ≠ some a then some x
        else if x.state = .closed ∧ x.members = 1 then none else some { x with members := x.members - 1 })
      ∧ t.link = ⟨.ready ⟨0x33, tag, .done, e16 g.cards.length⟩, List.replicate 5 0⟩
      ∧ t.store = s.store ∧ t.hold = s.hold ∧ t.mode = s.mode ∧ t.clock = s.clock ∧ t.field = s.field
      ∧ t.cabin.overrides = s.cabin.overrides ∧ t.folio.outlets = s.folio.outlets
      ∧ t.folio.currencies = s.folio.currencies
      ∧ t.tally.epoch = s.tally.epoch ∧ t.tally.gangways = s.tally.gangways
      ∧ t.tally.complete = s.tally.complete ∧ t.tally.stations = s.tally.stations
      ∧ t.tally.groupEnable = s.tally.groupEnable ∧ t.tally.groupPending = s.tally.groupPending
      ∧ (let fired : Fin 2 → Bool := fun n =>
          let w := cell s.tally.watches n
          w.armed && s.tally.sourceCount w != t.tally.sourceCount w && t.tally.sourceCount w == w.value
        (∀ n : Fin 2, cell t.tally.watches n
          = if fired n then { cell s.tally.watches n with armed := false } else cell s.tally.watches n)
        ∧ t.notice = { s.notice with
          flags := s.notice.flags ||| 1#13 ||| (if fired 0 then 0x80#13 else 0) ||| (if fired 1 then 0x100#13 else 0) })

/-- SET_CABIN, SET_OVERRIDE and CLEAR_OVERRIDE write one cabin record or one override slot. The form of
SET_CABIN's response and the bytes of the flags and the enable are the model's choices, log entries 20 and 10.
-/
def Obligations.CabinCommands : Prop :=
  (∀ w : Window, ∀ m : Nat, insideWindow (some w) m = true ↔
      (w.start < w.stop ∧ w.start ≤ m ∧ m < w.stop) ∨ (w.stop < w.start ∧ (w.start ≤ m ∨ m < w.stop)) ∨ w.start = w.stop)
    ∧ (∀ m : Nat, insideWindow none m = true)
    ∧ (∀ (s : State) (i : Nat) (m : Fin 8) (o : Override), s.activeOverride i = some (m, o) ↔
      cell s.cabin.overrides m = some o ∧ o.enable = true ∧ o.index = i
        ∧ ∀ j : Fin 8, j < m → ∀ x ∈ cell s.cabin.overrides j, x.enable = true → x.index ≠ i)
    ∧ ∀ (s : State) (tag : Byte), s.SlotEmpty → s.HasRecords →
    (∀ (code : CabinCode) (i junk : Nat) (out privacy : Option Bool) (window : Option (Option Window)),
      s.store.cabinIndex code = some i → privacy ≠ some true →
      (∀ w ∈ window.join, w.start ≤ 1439 ∧ w.stop ≤ 1439) →
      let f := frameOf tag (eCode code ++ eEnum [none, some true, some false] out
        ++ eEnum [none, some false] privacy ++ givenBoth (e32 junk) (fun w => e16 w.start ++ e16 w.stop) window)
      let c : Cabin := { s.cabinAt i with
        outOfOrder := out.getD (s.cabinAt i).outOfOrder, privacy := privacy.getD (s.cabinAt i).privacy
        window := window.getD (s.cabinAt i).window }
      exec (.setCabin f) s = .next ({ s with
        cabin := { s.cabin with cabins := Table.putD s.cabin.cabins i c Cabin.empty } }.answered 0x40 f .done
          (e16 i ++ e16 c.occupants.length ++ c.occupants.flatMap e16 ++ e8 (if c.privacy then 0 else 1)
            ++ e8 (if c.outOfOrder then 0 else 1)
            ++ eOpt s.draws 4 (fun w : Window => e16 w.start ++ e16 w.stop) c.window)))
    ∧ (∀ (code : CabinCode) (out privacy marker start stop : Nat), out < 256 → privacy < 256 → marker < 256 →
      start < 65536 → stop < 65536 →
      let f := frameOf tag (eCode code ++ e8 out ++ e8 privacy ++ e8 marker ++ e16 start ++ e16 stop)
      let valid : Prop := out ≤ 2 ∧ privacy ≤ 1 ∧ marker ≤ 2 ∧ (marker = 1 → start ≤ 1439 ∧ stop ≤ 1439)
      (¬ valid → exec (.setCabin f) s = .next (s.answered 0x40 f .range []))
      ∧ (valid → s.store.decode code = none → exec (.setCabin f) s = .next (s.answered 0x40 f .badCabin [])))
    ∧ (∀ (slot kind serial enable : Nat) (code : CabinCode), slot < 256 → kind < 256 → serial < 4294967296 →
      enable < 256 →
      let f := frameOf tag (e8 slot ++ eCode code ++ e8 kind ++ e32 serial ++ e8 enable)
      let valid : Prop := slot ≤ 7 ∧ kind ≤ 2 ∧ enable ≤ 1 ∧ (kind = 2 → serial ≠ 0)
      (¬ valid → exec (.setOverride f) s = .next (s.answered 0x41 f .range []))
      ∧ (valid → s.store.decode code = none → exec (.setOverride f) s = .next (s.answered 0x41 f .badCabin [])))
    ∧ (∀ slot : Nat, 7 < slot → slot < 256 →
      let f := frameOf tag (e8 slot)
      exec (.clearOverride f) s = .next (s.answered 0x42 f .range []))
    ∧ (∀ (n : Fin 8) (code : CabinCode) (i serial : Nat) (action : OverrideAction) (enable : Bool),
      s.store.cabinIndex code = some i → serial < 4294967296 →
      (∀ x, action = .admitOne x → x = serial ∧ 1 ≤ serial) →
      let kind : Nat := match action with | .denyAll => 0 | .serviceOnly => 1 | .admitOne _ => 2
      let f := frameOf tag (e8 n.val ++ eCode code ++ e8 kind ++ e32 serial ++ e8 (if enable then 0 else 1))
      let clash : Prop := ∃ m : Fin 8, m ≠ n ∧ ∃ o, cell s.cabin.overrides m = some o ∧ o.enable = true
        ∧ o.code = code
      (enable = false ∨ ¬ clash → exec (.setOverride f) s = .next ({ s with
        cabin := { s.cabin with
          overrides := putCell s.cabin.overrides n (some ⟨code, i, action, enable⟩) } }.answered
          0x41 f .done (e16 i)))
      ∧ (enable = true → clash → exec (.setOverride f) s = .next (s.answered 0x41 f .duplicate [])))
    ∧ ∀ n : Fin 8,
      let f := frameOf tag (e8 n.val)
      exec (.clearOverride f) s = .next ({ s with
        cabin := { s.cabin with overrides := putCell s.cabin.overrides n none } }.answered 0x42 f .done [])

/-- ENTRY: every test of its decision in order, whom it admits on what basis, what it refuses. The correction is
stated in PresenceMoves, the resolution in ResolutionTestsInOrder, the window and the override of a cabin in
CabinCommands. That the marker is 1 for a correction made is log entry 10. -/
def Obligations.EntryAdmissions : Prop :=
  ∀ (s : State) (n : Fin 4) (r : Request) (rest : List Request) (code : CabinCode) (serial issue : Nat),
    s.Heads n r rest → r.kind = .entry → r.payload = eCode code ++ e32 serial ++ e8 issue →
    serial < 4294967296 → issue < 256 → s.field.running = true → s.store.part ≠ .blank → s.store.scrub = none →
    let admitted : State → List Byte → Prop := fun t data =>
      exec (.entry n) s = .next (t.replying n r rest .admitted data)
    let refused : Reason → Prop := fun x => exec (.entry n) s = .next (s.replying n r rest x [])
    (s.store.decode code = none → refused .badCabin)
    ∧ ∀ deck i : Nat, s.store.decode code = some (deck, i) →
      let onLane : Prop := ∃ x, cell s.store.laneDecks n = some x ∧ x.low ≤ deck ∧ deck ≤ x.high
      (¬ onLane → refused .wrongLane)
      ∧ (onLane → ∀ x : Reason, s.resolve ⟨serial, issue⟩ = .error (x, []) → refused x)
      ∧ (onLane → ∀ c : Resolution, s.resolve ⟨serial, issue⟩ = .ok c →
        (c.holder = .officer → admitted s (e8 0))
        ∧ (c.holder ≠ .officer → s.mode.lockdown = true → refused .denyMode)
        ∧ (c.holder ≠ .officer → s.mode.lockdown = false →
          (∀ (m : Fin 8) (o : Override), s.activeOverride i = some (m, o) →
            (o.action = .denyAll → refused .denyOverride)
            ∧ (o.action = .serviceOnly → (∃ k, c.holder = .guest k) → refused .denyOverride)
            ∧ (∀ x, o.action = .admitOne x → c.serial ≠ x → refused .denyOverride)
            ∧ (o.action = .admitOne c.serial → admitted s (e8 1)))
          ∧ (s.activeOverride i = none ∨ (∃ (m : Fin 8) (o : Override) (x : DeckRange),
              s.activeOverride i = some (m, o) ∧ o.action = .serviceOnly ∧ c.holder = .service x) →
            ((s.cabinAt i).outOfOrder = true → refused .denyOutOfOrder)
            ∧ ((s.cabinAt i).outOfOrder = false →
              (∀ k : Nat, c.holder = .guest k →
                (k ∉ (s.cabinAt i).occupants → refused .notOccupant)
                ∧ ∀ g : Guest, s.guestAt k = some g → k ∈ (s.cabinAt i).occupants →
                  (g.presence = .departed → refused .denyDeparted)
                  ∧ (g.presence = .aboard → admitted s (e8 2 ++ e8 0))
                  ∧ (g.presence = .expected ∨ g.presence = .ashore → admitted (s.correctPresence k g) (e8 2 ++ e8 1)))
              ∧ ∀ x : DeckRange, c.holder = .service x →
                (deck < x.low ∨ x.high < deck → refused .denyClass)
                ∧ (x.low ≤ deck → deck ≤ x.high →
                  ((s.cabinAt i).privacy = true → refused .denyPrivacy)
                  ∧ ((s.cabinAt i).privacy = false →
                    (insideWindow (s.cabinAt i).window s.clock.minute = false → refused .denyWindow)
                    ∧ (insideWindow (s.cabinAt i).window s.clock.minute = true → admitted s (e8 3))))))))

/-- Every request taken while the part does not serve is answered UNAVAILABLE and changes nothing else. Test 1
of every decision. -/
def Obligations.UnservedRequestsUnavailable : Prop :=
  ∀ (s : State) (n : Fin 4) (r : Request) (rest : List Request), s.Heads n r rest →
    s.field.running = false ∨ s.store.part = .blank ∨ s.store.scrub.isSome = true →
    let take : Instr := match r.kind with
      | .entry => .entry n | .privacy => .privacy n | .charge => .charge n | .balance => .balance n
      | .authorise => .authorise n | .complete => .complete n | .void => .void n | .gate => .gate n
      | .muster => .muster n
    exec take s = .next (s.replying n r rest .unavailable [])

/-- PRIVACY sets or clears the flag of an occupied cabin; BAD_CABIN, WRONG_LANE and IGNORED change nothing. A
latch state other than 0 and 1 never reaches the cabin unit (R156). The byte of the flag's new value in NOTED is
the model's choice, log entry 10. -/
def Obligations.PrivacyReports : Prop :=
  ∀ (s : State) (n : Fin 4) (r : Request) (rest : List Request) (code : CabinCode) (latch : Bool),
    s.Heads n r rest → r.kind = .privacy → r.payload = eCode code ++ e8 latch.toNat → s.field.running = true →
    s.store.part ≠ .blank → s.store.scrub = none →
    let replied : State → Reason → List Byte → Prop := fun t x data =>
      exec (.privacy n) s = .next (t.replying n r rest x data)
    (s.store.decode code = none → replied s .badCabin [])
    ∧ ∀ deck i : Nat, s.store.decode code = some (deck, i) →
      let onLane : Prop := ∃ x, cell s.store.laneDecks n = some x ∧ x.low ≤ deck ∧ deck ≤ x.high
      let noted : Table Cabin := Table.putD s.cabin.cabins i { s.cabinAt i with privacy := latch } Cabin.empty
      (¬ onLane → replied s .wrongLane [])
      ∧ (onLane → (s.cabinAt i).occupants ≠ [] →
        replied { s with cabin := { s.cabin with cabins := noted } } .noted (e8 latch.toNat))
      ∧ (onLane → (s.cabinAt i).occupants = [] → replied s .ignored [])

/-- OPEN_FOLIO, AMEND_FOLIO, POST_PAYMENT, POST_CHARGE and SETTLE_FOLIO change one folio. The whole state is
given, so what is not named is kept. -/
def Obligations.FolioCommands : Prop :=
  ∀ (s : State) (tag : Byte), s.SlotEmpty → s.HasRecords → Table.wf s.folio.folios →
    let put : Nat → Folio → State := fun k x =>
      { s with folio := { s.folio with folios := Table.put s.folio.folios k x } }
    let available : Folio → List Byte := fun x => eInt (x.credit - x.balance - x.held)
    (∀ number credit k : Nat, 1 ≤ number → number < 4294967296 → credit < 4294967296 →
      (∀ e ∈ s.folio.folios, e.2.number ≠ number) → s.folioAt k = none → (∀ j, j < k → s.folioAt j ≠ none) →
      k < s.store.caps.folios →
      let f := frameOf tag (e32 number ++ e32 credit)
      exec (.openFolio f) s = .next ((put k ⟨number, .opened, min credit 10000000, 0, 0, 0, []⟩).answered
        0x50 f .done (e16 k ++ e32 (min credit 10000000))))
    ∧ (∀ number credit : Nat, number < 4294967296 → credit < 4294967296 →
      let f := frameOf tag (e32 number ++ e32 credit)
      let refused : Result → Prop := fun r => exec (.openFolio f) s = .next (s.answered 0x50 f r [])
      (number = 0 → refused .range)
      ∧ (number ≠ 0 → (∃ e ∈ s.folio.folios, e.2.number = number) → refused .duplicate)
      ∧ (number ≠ 0 → (∀ e ∈ s.folio.folios, e.2.number ≠ number) →
        (∀ k, k < s.store.caps.folios → s.folioAt k ≠ none) → refused .capacity))
    ∧ (∀ k : Nat, k < 65536 →
      let missing : Prop := s.store.caps.folios ≤ k ∨ s.folioAt k = none
      let named : (Folio → Prop) → Prop := fun p => k < s.store.caps.folios ∧ ∃ x, s.folioAt k = some x ∧ p x
      (∀ marker credit action : Nat, marker < 256 → credit < 4294967296 → action < 256 →
        let f := frameOf tag (e16 k ++ e8 marker ++ e32 credit ++ e8 action)
        let refused : Result → Prop := fun r => exec (.amendFolio f) s = .next (s.answered 0x51 f r [])
        let valid : Prop := (marker = 1 ∨ marker = 2) ∧ action ≤ 2
        (¬ valid → refused .range) ∧ (valid → missing → refused .notFound)
        ∧ (valid → named (fun x => x.state = .closed) → refused .folioState))
      ∧ (∀ a : Nat, a < 4294967296 →
        let f := frameOf tag (e16 k ++ e32 a)
        let valid : Prop := 1 ≤ a ∧ a ≤ 10000000
        let refused : Result → Prop := fun r => exec (.postPayment f) s = .next (s.answered 0x52 f r [])
          ∧ exec (.postCharge f) s = .next (s.answered 0x53 f r [])
        (¬ valid → refused .range) ∧ (valid → missing → refused .notFound)
        ∧ (valid → named (fun x => x.state = .closed) → refused .folioState)
        ∧ (valid → named (fun x => x.state ≠ .closed ∧ x.balance - a < -99999999) →
          exec (.postPayment f) s = .next (s.answered 0x52 f .range []))
        ∧ (valid → named (fun x => x.state ≠ .closed ∧ 99999999 < x.balance + x.held + a) →
          exec (.postCharge f) s = .next (s.answered 0x53 f .range [])))
      ∧ (let f := frameOf tag (e16 k)
        let refused : Result → Prop := fun r => exec (.settleFolio f) s = .next (s.answered 0x54 f r [])
        (missing → refused .notFound) ∧ (named (fun x => x.state = .closed) → refused .folioState)
        ∧ (named (fun x => x.state ≠ .closed ∧ x.holds ≠ []) → refused .holdsPending)
        ∧ (named (fun x => x.state ≠ .closed ∧ x.holds = [] ∧ x.balance ≠ 0) → refused .balance)))
    ∧ ∀ (k : Nat) (x : Folio), k < 65536 → k < s.store.caps.folios → s.folioAt k = some x → x.state ≠ .closed →
      (∀ (credit : Option Nat) (junk : Nat) (action : FolioAction), (∀ l ∈ credit, l < 4294967296) →
        let f := frameOf tag (e16 k ++ givenOr 2 (e32 junk) e32 credit
          ++ e8 (match action with | .none => 0 | .freeze => 1 | .thaw => 2))
        let y : Folio := { x with
          credit := (credit.map (fun l => min l 10000000)).getD x.credit
          state := (match action with | .none => x.state | .freeze => .frozen | .thaw => .opened) }
        exec (.amendFolio f) s = .next ((put k y).answered 0x51 f .done
          (e8 (if y.state = .opened then 1 else 2) ++ e32 y.credit ++ available y)))
      ∧ (∀ a : Nat, 1 ≤ a → a ≤ 10000000 →
        let f := frameOf tag (e16 k ++ e32 a)
        (-99999999 ≤ x.balance - a →
          let y : Folio := { x with balance := x.balance - a }
          exec (.postPayment f) s = .next ((put k y).answered 0x52 f .done (eInt y.balance ++ available y)))
        ∧ (x.balance + x.held + a ≤ 99999999 →
          let y : Folio := { x with balance := x.balance + a }
          exec (.postCharge f) s = .next ((put k y).answered 0x53 f .done (eInt y.balance ++ available y))))
      ∧ (x.holds = [] → x.balance = 0 →
        let f := frameOf tag (e16 k)
        (x.members ≠ 0 → exec (.settleFolio f) s
          = .next ((put k { x with state := .closed }).answered 0x54 f .done (e8 3)))
        ∧ (x.members = 0 → exec (.settleFolio f) s = .next ({ s with
            folio := { s.folio with folios := Table.erase s.folio.folios k } }.answered 0x54 f .done (e8 0))))

/-- SET_CURRENCY and SET_OUTLET write live and staged values, refused or clamped as their rules say. Absent
value bytes of the response are free values (log entry 2); the bytes of the enable, open and alcohol flags, the
one byte of the entry number and the widths that Section 12.1 does not list are the model's choices, log entries
10, 12 and 25. -/
def Obligations.CurrencyAndOutletCommands : Prop :=
  ∀ (s : State) (tag : Byte), s.SlotEmpty →
    let flag : Bool → List Byte := fun b => e8 (if b then 0 else 1)
    (∀ (k : Fin 8) (enable : Option Bool) (rate : Option Nat) (junk : Nat) (later : Bool),
      (∀ r ∈ rate, 1 ≤ r ∧ r ≤ 1000000) →
      let f := frameOf tag (e8 k.val ++ eEnum [none, some true, some false] enable
        ++ givenOr 0 (e32 junk) e32 rate ++ e8 later.toNat)
      let c := cell s.folio.currencies k
      let d : Currency := {
        enabled := enable.getD c.enabled
        live := if later then c.live else rate.getD c.live
        staged := if later then rate else c.staged }
      (k ≠ 0 → exec (.setCurrency f) s = .next ({ s with
        folio := { s.folio with currencies := putCell s.folio.currencies k d } }.answered 0x56 f .done
          (flag d.enabled ++ e32 d.live ++ eOpt s.draws 4 e32 d.staged)))
      ∧ (k = 0 → exec (.setCurrency f) s = .next (s.answered 0x56 f .range [])))
    ∧ (∀ entry enable marker rate timing : Nat, entry < 256 → enable < 256 → marker < 256 → rate < 4294967296 →
      timing < 256 →
      ¬ (1 ≤ entry ∧ entry ≤ 7 ∧ enable ≤ 2 ∧ marker ≤ 1 ∧ (marker = 1 → 1 ≤ rate ∧ rate ≤ 1000000) ∧ timing ≤ 1) →
      let f := frameOf tag (e8 entry ++ e8 enable ++ e8 marker ++ e32 rate ++ e8 timing)
      exec (.setCurrency f) s = .next (s.answered 0x56 f .range []))
    ∧ (∀ outlet isOpen gratuity lifetime overrun alcohol timing m1 m2 m3 m4 m5 : Nat, outlet < 65536 → isOpen < 256 →
      gratuity < 256 → lifetime < 65536 → overrun < 256 → alcohol < 256 → timing < 256 →
      (∀ m ∈ [m1, m2, m3, m4, m5], m < 256) →
      ¬ (outlet ≤ 63 ∧ (m1 = 2 ∨ (m1 = 1 ∧ isOpen ≤ 1)) ∧ m2 ≤ 2 ∧ (m3 = 1 ∨ m3 = 2) ∧ (m4 = 1 ∨ m4 = 2)
        ∧ (m5 = 2 ∨ (m5 = 1 ∧ alcohol ≤ 1)) ∧ timing ≤ 1) →
      let f := frameOf tag (e16 outlet ++ e8 m1 ++ e8 isOpen ++ e8 m2 ++ e8 gratuity ++ e8 m3 ++ e16 lifetime
        ++ e8 m4 ++ e8 overrun ++ e8 m5 ++ e8 alcohol ++ e8 timing)
      exec (.setOutlet f) s = .next (s.answered 0x58 f .range []))
    ∧ ∀ (k : Fin 64) (isOpen : Option Bool) (gratuity : Option (Option Nat)) (lifetime overrun : Option Nat)
      (alcohol : Option Bool) (later : Bool) (junk : Nat), (∀ g ∈ gratuity.join, g < 256) →
      (∀ l ∈ lifetime, l < 65536) → (∀ v ∈ overrun, v < 256) →
      let f := frameOf tag (e16 k.val ++ givenOr 2 (e8 junk) flag isOpen ++ givenBoth (e8 junk) e8 gratuity
        ++ givenOr 2 (e16 junk) e16 lifetime ++ givenOr 2 (e8 junk) e8 overrun ++ givenOr 2 (e8 junk) flag alcohol
        ++ e8 later.toNat)
      let o := s.outletAt k.val
      let p : Outlet := {
        isOpen := isOpen.getD o.isOpen
        gratuity := (match gratuity with
          | some (some g) => if later then o.gratuity else min g 250
          | _ => o.gratuity)
        staged := (match gratuity with
          | some (some g) => if later then some (min g 250) else o.staged
          | some none => none
          | none => o.staged)
        lifetime := (match lifetime with | some l => if l = 0 then 1 else min l 240 | none => o.lifetime)
        overrun := (match overrun with | some v => min v 200 | none => o.overrun)
        alcohol := alcohol.getD o.alcohol }
      exec (.setOutlet f) s = .next ({ s with
        folio := { s.folio with outlets := Table.putD s.folio.outlets k.val p Outlet.cold } }.answered 0x58 f .done
          (flag p.isOpen ++ e8 p.gratuity ++ eOpt s.draws 1 e8 p.staged ++ e16 p.lifetime ++ e8 p.overrun
            ++ flag p.alcohol))

/-- Rounded half up and rounded up are the two roundings of quotient and remainder. The quotient and remainder
are given by their defining equation. -/
def Obligations.RoundingRules : Prop :=
  ∀ n d q r : Nat, 0 < d → n = d * q + r → r < d →
    (2 * r < d → roundHalfUp n d = q) ∧ (d ≤ 2 * r → roundHalfUp n d = q + 1)
    ∧ (r = 0 → roundUp n d = q) ∧ (0 < r → roundUp n d = q + 1)

/-- The charge computation gives c, t and T exactly when its inputs and its total are valid. Roundings are
stated by the bounds that determine them. -/
def Obligations.ChargeComputation : Prop :=
  (∀ (s : State) (amount currency : Nat) (o : Outlet) (x : Charge),
      s.computeCharge amount currency o = some x ↔
        1 ≤ amount ∧ amount ≤ 999999 ∧ x.total = x.converted + x.gratuity ∧ 1 ≤ x.total ∧ x.total ≤ 2000000
        ∧ 2000 * x.gratuity ≤ 2 * (x.converted * o.gratuity) + 1000
        ∧ 2 * (x.converted * o.gratuity) + 1000 < 2000 * (x.gratuity + 1)
        ∧ ∃ k : Fin 8, k.val = currency ∧ (cell s.folio.currencies k).enabled = true
          ∧ (k = 0 → x.converted = amount)
          ∧ (k ≠ 0 → 20000 * x.converted ≤ 2 * (amount * (cell s.folio.currencies k).live) + 10000
            ∧ 2 * (amount * (cell s.folio.currencies k).live) + 10000 < 20000 * (x.converted + 1)))
    ∧ ∀ T v : Nat, T * (1000 + v) ≤ 1000 * holdAmount T v ∧ 1000 * holdAmount T v < T * (1000 + v) + 1000
      ∧ (T ≤ 2000000 → v ≤ 200 → T ≤ holdAmount T v ∧ holdAmount T v ≤ 2400000)

/-- CHARGE posts its total within the two limits; BALANCE reports the allowance; each test refuses in order. The
tests are `State.Sells` and its parts, their failures `State.SaleStops` and `State.GuestStops`. -/
def Obligations.ChargePostsTotal : Prop :=
  (∀ (s : State) (n : Fin 4) (r : Request) (rest : List Request) (serial issue : Nat), s.Heads n r rest → s.Serves →
      serial < 4294967296 → issue < 256 →
      (∀ amount currency category : Nat, r.kind = .charge →
        r.payload = e32 serial ++ e8 issue ++ e32 amount ++ e8 currency ++ e8 category → amount < 4294967296 →
        currency < 256 → category < 256 →
        s.SaleStops n r.terminal ⟨serial, issue⟩ amount currency category
          (fun x => exec (.charge n) s = .next (s.replying n r rest x [])))
      ∧ (r.kind = .balance → r.payload = e32 serial ++ e8 issue →
        let refused : Reason → Prop := fun x => exec (.balance n) s = .next (s.replying n r rest x [])
        ((∀ o : Fin 64, ¬ s.HasPost n r.terminal (.till o)) → refused .denyPost)
        ∧ ∀ o : Fin 64, s.HasPost n r.terminal (.till o) → s.GuestStops ⟨serial, issue⟩ refused
          ∧ ∀ (k : Nat) (g : Guest), s.Presents ⟨serial, issue⟩ k g → (g.folio = none → refused .noFolio)
            ∧ ∀ a : Nat, g.folio = some a → (∀ x, s.folioAt a = some x → x.state ≠ .opened) → refused .denyFolio))
    ∧ ∀ (s : State) (n : Fin 4) (r : Request) (rest : List Request) (o : Fin 64) (serial issue k : Nat) (g : Guest)
    (a : Nat) (x : Folio), s.Heads n r rest → serial < 4294967296 → issue < 256 →
    let day := s.clock.day
    let spent : Nat := if g.spendDay = day then g.spent else 0
    let allowance : Int → Nat → List Byte := fun available spentNow => e32 (match g.dayLimit with
      | none => available.toNat
      | some l => (min available ((l : Int) - spentNow - g.held)).toNat)
    (∀ (amount currency category : Nat) (c : Charge), r.kind = .charge →
      r.payload = e32 serial ++ e8 issue ++ e32 amount ++ e8 currency ++ e8 category → amount < 4294967296 →
      currency < 256 → category < 256 →
      s.Sells n r.terminal o ⟨serial, issue⟩ amount currency category k g a x c →
      ((∀ l ∈ g.dayLimit, spent + g.held + c.total ≤ l) →
        (x.balance + x.held + c.total ≤ x.credit →
          let y : Folio := { x with balance := x.balance + c.total }
          let h : Guest := { g with spendDay := day, spent := min (spent + c.total) 12000000 }
          exec (.charge n) s = .next ({ s with
            folio := { s.folio with folios := Table.put s.folio.folios a y }
            roster := { s.roster with guests := Table.put s.roster.guests k h } }.replying n r rest .approved
            (e32 c.total ++ e32 c.converted ++ e32 c.gratuity
              ++ allowance (x.credit - (x.balance + c.total) - x.held) h.spent)))
        ∧ (x.credit < x.balance + x.held + c.total →
          exec (.charge n) s = .next (s.replying n r rest .denyCredit [])))
      ∧ (∀ l ∈ g.dayLimit, l < spent + g.held + c.total →
          exec (.charge n) s = .next (s.replying n r rest .denyDayLimit [])))
    ∧ (r.kind = .balance → r.payload = e32 serial ++ e8 issue → s.Serves → s.HasPost n r.terminal (.till o) →
      s.Presents ⟨serial, issue⟩ k g → g.folio = some a → s.folioAt a = some x → x.state = .opened →
      exec (.balance n) s = .next (s.replying n r rest .allowance
        (allowance (x.credit - x.balance - x.held) spent ++ eInt (x.credit - x.balance - x.held) ++ e32 spent)))

/-- A request gets one reply, and one that is not granted changes nothing but its lane. A take where R158 gives
no take, and of another kind than the head's, is no take: the model's choice, log entry 5. -/
def Obligations.RefusedRequestsChangeNothing : Prop :=
  (∀ (s : State) (n : Fin 4) (r : Request) (rest : List Request), s.Heads n r rest →
    let takes : List (RequestKind × Instr) := [(.entry, .entry n), (.privacy, .privacy n), (.charge, .charge n),
      (.balance, .balance n), (.authorise, .authorise n), (.complete, .complete n), (.void, .void n),
      (.gate, .gate n), (.muster, .muster n)]
    ∀ e ∈ takes,
      (e.1 = r.kind → ∃ (t : State) (reason : Reason) (data : List Byte),
        exec e.2 s = .next (t.replying n r rest reason data) ∧ reason ≠ .busy
        ∧ t.field = s.field ∧ t.pending = s.pending
        ∧ (reason ∉ [.admitted, .noted, .approved, .voided, .passed, .mustered, .musteredElsewhere,
            .alreadyMustered] → t = s))
      ∧ (e.1 ≠ r.kind → exec e.2 s = .next s))
    ∧ ∀ (s : State) (n : Fin 4),
      (s.laneAt n).queue = [] ∨ (s.laneAt n).transmitter ≠ .idle ∨ (s.laneAt n).busy ≠ [] →
      ∀ take ∈ [Instr.entry n, .privacy n, .charge n, .balance n, .authorise n, .complete n, .void n, .gate n,
        .muster n], exec take s = .next s

/-- AUTHORISE creates one hold of H in the slot that allocation gives, or names the test that stops it.
LapsedExact is R99; it is kept by every step as part of HoldsSound. The failures of tests 2 to 11 are
`State.SaleStops`. -/
def Obligations.AuthoriseCreatesHold : Prop :=
  (∀ (s : State) (n : Fin 4) (r : Request) (rest : List Request) (serial issue amount currency category : Nat),
      s.Heads n r rest → s.Serves → serial < 4294967296 → issue < 256 → amount < 4294967296 → currency < 256 →
      category < 256 → r.kind = .authorise →
      r.payload = e32 serial ++ e8 issue ++ e32 amount ++ e8 currency ++ e8 category →
      s.SaleStops n r.terminal ⟨serial, issue⟩ amount currency category
        (fun x => exec (.authorise n) s = .next (s.replying n r rest x [])))
    ∧ ∀ (s : State) (n : Fin 4) (r : Request) (rest : List Request) (o : Fin 64) (serial issue k : Nat) (g : Guest)
    (a : Nat) (x : Folio) (amount currency category : Nat) (c : Charge), s.Heads n r rest → s.LapsedExact →
    r.kind = .authorise → r.payload = e32 serial ++ e8 issue ++ e32 amount ++ e8 currency ++ e8 category →
    serial < 4294967296 → issue < 256 → amount < 4294967296 → currency < 256 → category < 256 →
    s.Sells n r.terminal o ⟨serial, issue⟩ amount currency category k g a x c →
    let out := s.outletAt o.val
    let H := holdAmount c.total out.overrun
    let spent : Nat := if g.spendDay = s.clock.day then g.spent else 0
    let within : Prop := ∀ l ∈ g.dayLimit, spent + g.held + H ≤ l
    let covered : Prop := x.balance + x.held + H ≤ x.credit
    let made : Nat → List Nat → Prop := fun slot lapsed =>
      let hold : Hold := ⟨a, k, o, H, min (s.clock.voyage + out.lifetime * 60) 4294967295⟩
      let entry : HoldSlot := ⟨.active hold, (s.holdAt slot).generation + 1⟩
      exec (.authorise n) s = .next ({ s with
        hold := ⟨Table.putD s.hold.slots slot entry ⟨.free, 0⟩, lapsed⟩
        folio := { s.folio with
          folios := Table.put s.folio.folios a { x with held := x.held + H, holds := x.holds ++ [slot] } }
        roster := { s.roster with guests := Table.put s.roster.guests k { g with held := g.held + H } } }.replying
        n r rest .approved (e8 slot ++ e8 entry.generation.toNat ++ e32 c.total ++ e32 H))
    (¬ within → exec (.authorise n) s = .next (s.replying n r rest .denyDayLimit []))
    ∧ (within → ¬ covered → exec (.authorise n) s = .next (s.replying n r rest .denyCredit []))
    ∧ (within → covered → 8 ≤ x.holds.length → exec (.authorise n) s = .next (s.replying n r rest .folioHoldLimit []))
    ∧ (within → covered → x.holds.length < 8 →
      (∀ slot, slot < 256 → (s.holdAt slot).status = .free → (∀ j, j < slot → (s.holdAt j).status ≠ .free) →
        made slot s.hold.lapsed)
      ∧ ((∀ j, j < 256 → (s.holdAt j).status ≠ .free) →
        (∀ slot lapsed, s.hold.lapsed = slot :: lapsed → made slot lapsed)
        ∧ (s.hold.lapsed = [] → exec (.authorise n) s = .next (s.replying n r rest .poolFull []))))

/-- COMPLETE and VOID end the ACTIVE hold of their tag; every other tag and total is refused. That the named
folio and guest exist is ActiveHoldsSound, which every step keeps. -/
def Obligations.CompletionsAndVoids : Prop :=
  ∀ (s : State) (n : Fin 4) (r : Request) (rest : List Request) (slot : Nat) (generation : BitVec 8)
    (amount currency : Nat), s.Heads n r rest → s.Serves → slot < 256 → amount < 4294967296 → currency < 256 →
    let tag : List Byte := e8 slot ++ e8 generation.toNat
    let complete : Prop := r.kind = .complete ∧ r.payload = tag ++ e32 amount ++ e8 currency
    let void : Prop := r.kind = .void ∧ r.payload = tag
    let freed : Table HoldSlot := Table.putD s.hold.slots slot ⟨.free, generation⟩ ⟨.free, 0⟩
    let ended : Hold → Folio → Guest → State := fun h x g => { s with
      hold := { s.hold with slots := freed }
      folio := { s.folio with folios := Table.put s.folio.folios h.folio x }
      roster := { s.roster with guests := Table.put s.roster.guests h.guest g } }
    let refused : Reason → Prop := fun reason =>
      (complete → exec (.complete n) s = .next (s.replying n r rest reason []))
      ∧ (void → exec (.void n) s = .next (s.replying n r rest reason []))
    ((∀ o : Fin 64, ¬ s.HasPost n r.terminal (.till o)) → refused .denyPost)
    ∧ ∀ o : Fin 64, s.HasPost n r.terminal (.till o) →
    (∀ (h : Hold) (x : Folio) (g : Guest), s.holdAt slot = ⟨.active h, generation⟩ → h.outlet = o →
      s.folioAt h.folio = some x → s.guestAt h.guest = some g →
      let y : Folio := { x with held := x.held - h.amount, holds := x.holds.erase slot }
      let spent : Nat := if g.spendDay = s.clock.day then g.spent else 0
      (complete →
        (∀ c, s.computeCharge amount currency (s.outletAt o.val) = some c →
          (c.total ≤ h.amount → exec (.complete n) s = .next ((ended h { y with balance := x.balance + c.total }
              { g with held := g.held - h.amount, spendDay := s.clock.day
                       spent := min (spent + c.total) 12000000 }).replying n r rest .approved
              (e32 c.total ++ e32 c.converted ++ e32 c.gratuity)))
          ∧ (h.amount < c.total → exec (.complete n) s
            = .next (s.replying n r rest .overHold (e32 c.total ++ e32 h.amount))))
        ∧ (s.computeCharge amount currency (s.outletAt o.val) = none →
          exec (.complete n) s = .next (s.replying n r rest .badAmount [])))
      ∧ (void → exec (.void n) s = .next ((ended h y { g with held := g.held - h.amount }).replying n r rest
          .voided (e32 h.amount))))
    ∧ (∀ (h : Hold) (x : BitVec 8), (s.holdAt slot = ⟨.active h, x⟩ ∨ s.holdAt slot = ⟨.lapsed h, x⟩) →
      (h.outlet ≠ o → refused .denyPost) ∧ (h.outlet = o → x ≠ generation → refused .unknownHold))
    ∧ ((s.holdAt slot).status = .free → refused .unknownHold)
    ∧ (∀ h : Hold, s.holdAt slot = ⟨.lapsed h, generation⟩ → h.outlet = o → refused .holdLapsed)

/-- RELEASE_FOLIO_HOLDS frees every hold of one folio and lowers the sums by exactly their amounts. HoldsSound
is kept by every step. The two bytes of the number of holds are the model's choice, log entry 25. -/
def Obligations.ReleaseEndsEveryHold : Prop :=
  (∀ (s : State) (tag : Byte) (k : Nat), s.SlotEmpty → s.HasRecords → k < 65536 →
      s.store.caps.folios ≤ k ∨ s.folioAt k = none →
      let f := frameOf tag (e16 k)
      exec (.releaseFolioHolds f) s = .next (s.answered 0x60 f .notFound []))
    ∧ ∀ (s : State) (tag : Byte) (k : Nat) (x : Folio), s.SlotEmpty → s.HasRecords → s.HoldsSound → k < 65536 →
    k < s.store.caps.folios → s.folioAt k = some x →
    let f := frameOf tag (e16 k)
    ∃ t : State, exec (.releaseFolioHolds f) s = .next (t.answered 0x60 f .done (e16 x.holds.length ++ e32 x.held))
      ∧ (∀ j, t.holdAt j = if j ∈ x.holds then ⟨.free, (s.holdAt j).generation⟩ else s.holdAt j)
      ∧ (∀ j, t.folioAt j = if j = k then some { x with held := 0, holds := [] } else s.folioAt j)
      ∧ (∀ j, t.guestAt j = (s.guestAt j).map (fun g =>
        { g with held := g.held - s.sumHolds (fun h => h.folio == k && h.guest == j) }))
      ∧ { t with hold := s.hold, folio := s.folio, roster := s.roster } = s
      ∧ t.hold.lapsed = s.hold.lapsed ∧ t.roster.enrolled = s.roster.enrolled
      ∧ t.folio.outlets = s.folio.outlets ∧ t.folio.currencies = s.folio.currencies

/-- GATE moves the guest its direction and gangway pass, and each of its tests refuses in order. The evaluation
of the watches is stated in TallyEvaluations; the failures of tests 4 to 6 are `State.GuestStops`. -/
def Obligations.GatePasses : Prop :=
  (∀ (s : State) (n : Fin 4) (r : Request) (rest : List Request) (serial issue : Nat), s.Heads n r rest →
      r.kind = .gate → r.payload = e32 serial ++ e8 issue → serial < 4294967296 → issue < 256 → s.Serves →
      let refused : Reason → Prop := fun x => exec (.gate n) s = .next (s.replying n r rest x [])
      let calm : Prop := s.mode.muster = false ∧ s.mode.lockdown = false
      ((∀ (w : Fin 8) (d : Direction), ¬ s.HasPost n r.terminal (.gate w d)) → refused .denyPost)
      ∧ ∀ (w : Fin 8) (d : Direction), s.HasPost n r.terminal (.gate w d) →
        (¬ calm → refused .denyMode) ∧ (calm → s.GuestStops ⟨serial, issue⟩ refused))
    ∧ ∀ (s : State) (n : Fin 4) (r : Request) (rest : List Request) (w : Fin 8) (d : Direction) (serial issue k : Nat)
    (g : Guest), s.Heads n r rest → r.kind = .gate → r.payload = e32 serial ++ e8 issue → serial < 4294967296 →
    issue < 256 → s.Serves → s.HasPost n r.terminal (.gate w d) → s.mode.muster = false → s.mode.lockdown = false →
    s.Presents ⟨serial, issue⟩ k g →
    let code : Presence → List Byte := fun p =>
      e8 (match p with | .expected => 0 | .aboard => 1 | .ashore => 2 | .departed => 3)
    let gangway := cell s.tally.gangways w
    let passed : Presence → State := fun q =>
      let pending : Bool := g.watch && s.tally.groupEnable.getLsbD g.station.val
      let here := cell s.tally.aboardAt g.station
      let aboardNow : Bool := decide (q = .aboard)
      ({ s with
        roster := { s.roster with
          guests := Table.put s.roster.guests k { g with presence := q, lastPass := some s.clock.voyage } }
        tally := { s.tally with
          expected := if g.presence = .expected then s.tally.expected - 1 else s.tally.expected
          aboard := if aboardNow then s.tally.aboard + 1 else s.tally.aboard - 1
          ashore := if aboardNow then (if g.presence = .ashore then s.tally.ashore - 1 else s.tally.ashore)
            else s.tally.ashore + 1
          aboardAt := putCell s.tally.aboardAt g.station (if aboardNow then here + 1 else here - 1)
          groupPending := if pending then s.tally.groupPending ||| BitVec.twoPow 16 g.station.val
            else s.tally.groupPending }
        notice := if pending then { s.notice with flags := s.notice.flags ||| 0x40#13 } else s.notice
        : State }).evaluateWatches s.tally
    (∀ l ∈ g.lastPass, s.clock.voyage - l < gangway.guard →
      exec (.gate n) s = .next (s.replying n r rest .repeated []))
    ∧ ((∀ l ∈ g.lastPass, gangway.guard ≤ s.clock.voyage - l) →
      ((d = .outbound ∧ g.presence ≠ .aboard) ∨ (d = .inbound ∧ g.presence = .aboard) →
        exec (.gate n) s = .next (s.replying n r rest .denyPassback (code g.presence)))
      ∧ (g.presence = .aboard → d ≠ .inbound →
        (gangway.state = .opened →
          exec (.gate n) s = .next ((passed .ashore).replying n r rest .passed (code .ashore ++ e16 k)))
        ∧ (gangway.state ≠ .opened →
          exec (.gate n) s = .next (s.replying n r rest .denyClosed (code g.presence))))
      ∧ (g.presence ≠ .aboard → d ≠ .outbound →
        (gangway.state ≠ .closed →
          exec (.gate n) s = .next ((passed .aboard).replying n r rest .passed (code .aboard ++ e16 k)))
        ∧ (gangway.state = .closed →
          exec (.gate n) s = .next (s.replying n r rest .denyClosed (code g.presence)))))

/-- SET_GANGWAY, SET_TALLY_WATCH, SET_WATCH_GROUPS and SET_STATIONS write their part of the tally unit. The
completion evaluation is stated in TallyEvaluations. The station that an ARM stores and the range tests of a
DISARM are the model's choices, log entry 22. -/
def Obligations.TallyUnitSettings : Prop :=
  ∀ (s : State) (tag : Byte), s.SlotEmpty →
    (∀ (n : Fin 8) (state : Option GangwayState) (guard : Option Nat) (junk : Nat), (∀ x ∈ guard, x < 65536) →
      let f := frameOf tag (e16 n.val ++ eEnum [none, some .opened, some .inboundOnly, some .closed] state
        ++ givenOr 2 (e16 junk) e16 guard)
      let g : Gangway := ⟨state.getD (cell s.tally.gangways n).state,
        (guard.map (fun x => min x 255)).getD (cell s.tally.gangways n).guard⟩
      exec (.setGangway f) s = .next ({ s with
        tally := { s.tally with gangways := putCell s.tally.gangways n g } }.answered 0x70 f .done
        (e8 (match g.state with | .opened => 0 | .inboundOnly => 1 | .closed => 2) ++ e16 g.guard)))
    ∧ (∀ gangway state marker guard : Nat, gangway < 65536 → state < 256 → marker < 256 → guard < 65536 →
      ¬ (gangway ≤ 7 ∧ state ≤ 3 ∧ (marker = 1 ∨ marker = 2)) →
      let f := frameOf tag (e16 gangway ++ e8 state ++ e8 marker ++ e16 guard)
      exec (.setGangway f) s = .next (s.answered 0x70 f .range []))
    ∧ (∀ watch action source station value : Nat, watch < 256 → action < 256 → source < 256 → station < 65536 →
      value < 65536 → ¬ (watch ≤ 1 ∧ action ≤ 1 ∧ source ≤ 4 ∧ station ≤ 15) →
      let f := frameOf tag (e8 watch ++ e8 action ++ e8 source ++ e16 station ++ e16 value)
      exec (.setTallyWatch f) s = .next (s.answered 0x72 f .range []))
    ∧ (∀ (n : Fin 2) (source : WatchSource) (station : Fin 16) (value : Nat), value < 65536 →
      let payload : Nat → List Byte := fun action => e8 n.val ++ e8 action ++ e8 (match source with
        | .aboardTotal => 0 | .ashoreTotal => 1 | .expectedTotal => 2 | .stationAboard => 3 | .unmusteredTotal => 4)
        ++ e16 station.val ++ e16 value
      let set : Watch → Tally := fun w => { s.tally with watches := putCell s.tally.watches n w }
      let now : Nat := match source with
        | .aboardTotal => s.tally.aboard
        | .ashoreTotal => s.tally.ashore
        | .expectedTotal => s.tally.expected
        | .stationAboard => cell s.tally.aboardAt station
        | .unmusteredTotal => ((List.finRange 16).map (fun i => cell s.tally.unmustered i)).sum
      let v := min value s.store.caps.guests
      (now = v → exec (.setTallyWatch (frameOf tag (payload 0))) s = .next ({ s with
          tally := set ⟨source, station, v, false⟩
          notice := { s.notice with
            flags := s.notice.flags ||| (if n = 0 then 0x80#13 else 0x100#13) } }.answered
          0x72 (frameOf tag (payload 0)) .done (e8 0)))
      ∧ (now ≠ v → exec (.setTallyWatch (frameOf tag (payload 0))) s = .next ({ s with
          tally := set ⟨source, station, v, true⟩ }.answered
          0x72 (frameOf tag (payload 0)) .done (e8 1 ++ e16 now)))
      ∧ exec (.setTallyWatch (frameOf tag (payload 1))) s = .next ({ s with
          tally := set { cell s.tally.watches n with armed := false } }.answered
          0x72 (frameOf tag (payload 1)) .done []))
    ∧ ∀ x : BitVec 16,
      let f := frameOf tag (e16 x.toNat)
      let masked : State := { s with tally := { s.tally with stations := x } }
      exec (.setWatchGroups f) s
        = .next ({ s with tally := { s.tally with groupEnable := x } }.answered 0x73 f .done [])
      ∧ exec (.setStations f) s
        = .next ((if s.mode.muster then masked.evaluateCompletion else masked).answered 0x75 f .done (e16 x.toNat))

/-- What the evaluation of the tally watches and of muster completion change. The two evaluations that the
statements about commands name. -/
def Obligations.TallyEvaluations : Prop :=
  ∀ s : State,
    (∀ before : Tally,
      let fires : Fin 2 → Bool := fun n =>
        let w := cell s.tally.watches n
        let count : Tally → Nat := fun t => match w.source with
          | .aboardTotal => t.aboard
          | .ashoreTotal => t.ashore
          | .expectedTotal => t.expected
          | .stationAboard => cell t.aboardAt w.station
          | .unmusteredTotal => ((List.finRange 16).map (fun i => cell t.unmustered i)).sum
        w.armed && (count before != count s.tally) && (count s.tally == w.value)
      let after : Fin 2 → Watch := fun n =>
        { cell s.tally.watches n with armed := (cell s.tally.watches n).armed && !fires n }
      s.evaluateWatches before = { s with
        tally := { s.tally with watches := #v[after 0, after 1] }
        notice := { s.notice with flags := s.notice.flags ||| (if fires 0 then 0x80#13 else 0)
          ||| (if fires 1 then 0x100#13 else 0) } })
    ∧ ∀ holds : Bool, (holds = true ↔ (∃ i : Fin 16, s.tally.stations.getLsbD i.val = true)
        ∧ ∀ i : Fin 16, s.tally.stations.getLsbD i.val = true → cell s.tally.unmustered i = 0) →
      s.evaluateCompletion = { s with
        tally := { s.tally with complete := holds }
        notice := { s.notice with flags := s.notice.flags ||| (if !s.tally.complete && holds then 0x200#13 else 0)
          ||| (if s.tally.complete && !holds then 0x400#13 else 0) } }

/-- SET_PRESENCE and presence correction move one guest and the counts by R117. The evaluations are stated in
TallyEvaluations. -/
def Obligations.PresenceMoves : Prop :=
  (∀ (s : State) (tag : Byte) (k presence : Nat), s.SlotEmpty → s.HasRecords → k < 65536 → presence < 256 →
      let f := frameOf tag (e16 k ++ e8 presence)
      let refused : Result → Prop := fun r => exec (.setPresence f) s = .next (s.answered 0x71 f r [])
      (2 < presence → refused .range)
      ∧ (presence ≤ 2 → (s.store.caps.guests ≤ k ∨ s.guestAt k = none → refused .notFound)
        ∧ ∀ g : Guest, k < s.store.caps.guests → s.guestAt k = some g → g.presence = .departed → refused .wrongState))
    ∧ ∀ (s : State) (k : Nat) (g : Guest), s.guestAt k = some g →
    let step : Bool → Bool → Nat → Nat := fun falls rises x =>
      if falls then x - 1 else if rises then x + 1 else x
    let moved : Presence → State := fun q =>
      let count : Presence → Nat → Nat := fun p => step (decide (g.presence = p)) (decide (q = p))
      let at' : Vector Nat 16 → Vector Nat 16 := fun v =>
        putCell v g.station (count .aboard (cell v g.station))
      let t : State := { s with
        roster := { s.roster with guests := Table.put s.roster.guests k { g with presence := q } }
        tally := { s.tally with
          expected := count .expected s.tally.expected, aboard := count .aboard s.tally.aboard
          ashore := count .ashore s.tally.ashore, departed := count .departed s.tally.departed
          aboardAt := at' s.tally.aboardAt } }
      if s.mode.muster = true ∧ g.epoch ≠ s.tally.epoch then
        State.evaluateCompletion { t with tally := { t.tally with unmustered := at' s.tally.unmustered } }
      else t
    (∀ q, q ≠ g.presence → s.movePresence k g q = moved q)
    ∧ (g.presence ≠ .aboard → s.correctPresence k g =
      let t := (moved .aboard).evaluateWatches s.tally
      { t with notice := { t.notice with flags := t.notice.flags ||| 0x20#13 } })
    ∧ ∀ (tag : Byte) (q : Presence), s.SlotEmpty → s.HasRecords → k < 65536 → k < s.store.caps.guests →
      q ≠ .departed → g.presence ≠ .departed →
      let code : List Byte := e8 (match q with | .expected => 0 | .aboard => 1 | .ashore => 2 | .departed => 3)
      let f := frameOf tag (e16 k ++ code)
      exec (.setPresence f) s = .next ((if g.presence = q then s else (moved q).evaluateWatches s.tally).answered
        0x71 f .done code)

/-- MUSTER strikes the guest off at the guest's own station, and each of its tests refuses in order. The
evaluations are stated in TallyEvaluations, the correction in PresenceMoves; the failures of tests 4 to 6 are
`State.GuestStops`. The byte of the correction marker is the model's choice, log entry 10. -/
def Obligations.MusterTaps : Prop :=
  (∀ (s : State) (n : Fin 4) (r : Request) (rest : List Request) (serial issue : Nat), s.Heads n r rest →
      r.kind = .muster → r.payload = e32 serial ++ e8 issue → serial < 4294967296 → issue < 256 → s.Serves →
      let refused : Reason → Prop := fun x => exec (.muster n) s = .next (s.replying n r rest x [])
      ((∀ st : Fin 16, ¬ s.HasPost n r.terminal (.musterReader st)) → refused .denyPost)
      ∧ ∀ st : Fin 16, s.HasPost n r.terminal (.musterReader st) →
        (s.mode.muster = false → refused .denyMode)
        ∧ (s.mode.muster = true → s.GuestStops ⟨serial, issue⟩ refused))
    ∧ ∀ (s : State) (n : Fin 4) (r : Request) (rest : List Request) (st : Fin 16) (serial issue k : Nat) (g : Guest),
    s.Heads n r rest → r.kind = .muster → r.payload = e32 serial ++ e8 issue → serial < 4294967296 →
    issue < 256 → s.Serves → s.HasPost n r.terminal (.musterReader st) → s.mode.muster = true →
    s.Presents ⟨serial, issue⟩ k g →
    let home : List Byte := e16 k ++ e16 g.station.val
    let corrected : Bool := decide (g.presence ≠ .aboard)
    let c : State := if corrected then s.correctPresence k g else s
    let fewer : Vector Nat 16 := putCell c.tally.unmustered g.station (cell c.tally.unmustered g.station - 1)
    let struck : State := { c with
      roster := { c.roster with
        guests := Table.put c.roster.guests k { g with presence := .aboard, epoch := s.tally.epoch } }
      tally := { c.tally with unmustered := fewer } }
    (g.epoch = s.tally.epoch → exec (.muster n) s = .next (c.replying n r rest .alreadyMustered home))
    ∧ (g.epoch ≠ s.tally.epoch → exec (.muster n) s
      = .next (((struck.evaluateCompletion).evaluateWatches c.tally).replying n r rest
          (if st = g.station then .mustered else .musteredElsewhere) (home ++ e8 corrected.toNat)))

/-- The three set commands set their modes; the three clear commands clear them unless a line claims them. The
evaluations are stated in TallyEvaluations. In a refusal the order of the input numbers and the two bytes of
their count are the model's choices, log entries 38 and 25. -/
def Obligations.ModeCommands : Prop :=
  ∀ (s : State) (tag : Byte), s.SlotEmpty →
    let f := frameOf tag []
    let claimed : Role → List (Fin 4) := fun x => (List.finRange 4).filter (fun n =>
      (s.inputAt n).enabled && (s.inputAt n).asserted && ((s.inputAt n).role == x))
    let refusal : Role → List Byte := fun x => e16 (claimed x).length ++ (claimed x).flatMap (fun n => e8 n.val)
    let epoch : Nat := if s.tally.epoch = 255 then 1 else s.tally.epoch + 1
    let started : State := { s with
      roster := { s.roster with
        guests := s.roster.guests.map (fun e => (e.1, if e.2.epoch = epoch then { e.2 with epoch := 0 } else e.2)) }
      tally := { s.tally with epoch := epoch, unmustered := s.tally.aboardAt }
      mode := { s.mode with muster := true } }
    let closing : State := { s with
      mode := { s.mode with muster := false }
      tally := { s.tally with unmustered := Vector.replicate 16 0, complete := false } }
    exec (.setLockdown f) s = .next ({ s with mode := { s.mode with lockdown := true } }.answered 0x83 f .done [])
    ∧ exec (.stopCharging f) s = .next ({ s with mode := { s.mode with charging := true } }.answered 0x85 f .done [])
    ∧ (s.mode.muster = false → exec (.startMuster f) s
      = .next (((started.evaluateCompletion).evaluateWatches s.tally).answered 0x81 f .done (e8 0 ++ e8 epoch)))
    ∧ (s.mode.muster = true → exec (.startMuster f) s
      = .next (s.answered 0x81 f .done (e8 1 ++ e8 s.tally.epoch)))
    ∧ (claimed .lockdown = [] → exec (.clearLockdown f) s
      = .next ({ s with mode := { s.mode with lockdown := false } }.answered 0x84 f .done []))
    ∧ (claimed .chargeStop = [] → exec (.resumeCharging f) s
      = .next ({ s with mode := { s.mode with charging := false } }.answered 0x86 f .done []))
    ∧ (claimed .muster = [] → exec (.endMuster f) s
      = .next ((if s.mode.muster then closing.evaluateWatches s.tally else s).answered 0x82 f .done []))
    ∧ (claimed .lockdown ≠ [] → exec (.clearLockdown f) s
      = .next (s.answered 0x84 f .lineActive (refusal .lockdown)))
    ∧ (claimed .chargeStop ≠ [] → exec (.resumeCharging f) s
      = .next (s.answered 0x86 f .lineActive (refusal .chargeStop)))
    ∧ (claimed .muster ≠ [] → exec (.endMuster f) s = .next (s.answered 0x82 f .lineActive (refusal .muster)))

/-- SET_ALARM_INPUT, level changes, qualified assertions and releases change one input and its mode. An event
whose condition does not hold is none: the model's choice, log entry 5. The bytes of the enable and the
qualified state are log entry 10, no interval at a disabled input log entry 35. -/
def Obligations.AlarmInputCommands : Prop :=
  ∀ (s : State) (n : Fin 4),
    let x := s.inputAt n
    let put : State → AlarmInput → State := fun t y =>
      { t with mode := { t.mode with inputs := putCell t.mode.inputs n y } }
    let lineRaised : State → State := fun t => { t with notice := { t.notice with
      flags := t.notice.flags ||| 0x800#13, inputBits := t.notice.inputBits ||| BitVec.twoPow 4 n.val } }
    (∀ (tag : Byte) (enabled : Bool) (active : Level) (role : Role), s.SlotEmpty → s.store.part = .setup →
      let data : List Byte := e8 (if enabled then 0 else 1)
        ++ e8 (match active with | .high => 0 | .low => 1)
        ++ e8 (match role with | .none => 0 | .muster => 1 | .lockdown => 2 | .chargeStop => 3)
      let f := frameOf tag (e8 n.val ++ data)
      exec (.setAlarmInput f) s = .next ((put s ⟨enabled, active, role, false, x.line,
        if enabled then some 0 else none, false⟩).answered 0x80 f .done (data ++ e8 0)))
    ∧ (∀ (tag : Byte) (input enable active role : Nat), s.SlotEmpty → s.store.part = .setup → input < 256 →
      enable < 256 → active < 256 → role < 256 → ¬ (input ≤ 3 ∧ enable ≤ 1 ∧ active ≤ 1 ∧ role ≤ 3) →
      let f := frameOf tag (e8 input ++ e8 enable ++ e8 active ++ e8 role)
      exec (.setAlarmInput f) s = .next (s.answered 0x80 f .range []))
    ∧ (∀ level : Level,
      (x.line = level → exec (.alarmLevelChange n level) s = .next s)
      ∧ (x.line ≠ level → exec (.alarmLevelChange n level) s = .next (put s { x with
          line := level, interval := if x.enabled then some 0 else none })))
    ∧ (let may : Prop := x.enabled = true ∧ x.interval ≠ none ∧ x.line = x.active
        ∧ (x.asserted = false ∨ x.fresh = true)
      let t := put s { x with asserted := true, interval := none, fresh := false }
      (¬ may → exec (.qualifiedAssertion n) s = .next s)
      ∧ (may →
        (x.role = .none → exec (.qualifiedAssertion n) s = .next (lineRaised t))
        ∧ (x.role = .lockdown → exec (.qualifiedAssertion n) s
          = .next (lineRaised { t with mode := { t.mode with lockdown := true } }))
        ∧ (x.role = .chargeStop → exec (.qualifiedAssertion n) s
          = .next (lineRaised { t with mode := { t.mode with charging := true } }))
        ∧ (x.role = .muster → s.mode.muster = true → exec (.qualifiedAssertion n) s = .next (lineRaised t))
        ∧ (x.role = .muster → s.mode.muster = false →
          exec (.qualifiedAssertion n) s = .next (lineRaised t.startMuster))))
    ∧ (let may : Prop := x.enabled = true ∧ x.interval ≠ none ∧ x.line ≠ x.active ∧ x.asserted = true
      (may → exec (.qualifiedRelease n) s
        = .next (put s { x with asserted := false, interval := none, fresh := false }))
      ∧ (¬ may → exec (.qualifiedRelease n) s = .next s))

/-- A second arrival counts, lapses exactly the holds that expire, and at a minute tick may roll the day.
MINUTE_TICK and HOLD_LAPSE: log entries 5 and 15. -/
def Obligations.SecondArrivals : Prop :=
  ∀ s : State,
    let c := s.clock
    let v : Nat := if c.voyage = 4294967295 then c.voyage else c.voyage + 1
    let tick : Prop := c.second = 59
    let minute : Nat := if c.minute = 1439 then 0 else c.minute + 1
    let ends : Hold → Bool := fun h => h.expiry == v
    let ending : Nat → Bool := fun k => (s.holdAt k).activeHold.any ends
    let rolls : Prop := tick ∧ minute = c.rollover ∧ 72000 ≤ v - c.lastRollover
    (s.HoldsSound → c.running = true → ∃ t : State, exec .secondArrival s = .next t
      ∧ t.clock.voyage = v ∧ t.clock.running = true ∧ t.clock.phase = 0 ∧ t.clock.rollover = c.rollover
      ∧ t.clock.second = (if c.second = 59 then 0 else c.second + 1)
      ∧ t.clock.minute = (if c.second = 59 then minute else c.minute)
      ∧ (rolls → t.clock.day = min (c.day + 1) 999 ∧ t.clock.lastRollover = v
        ∧ (∀ k : Fin 8, cell t.folio.currencies k =
          let x := cell s.folio.currencies k
          { x with live := x.staged.getD x.live, staged := none })
        ∧ ∀ k : Nat, t.outletAt k =
          let x := s.outletAt k
          { x with gratuity := x.staged.getD x.gratuity, staged := none })
      ∧ (¬ rolls → t.clock.day = c.day ∧ t.clock.lastRollover = c.lastRollover
        ∧ t.folio.currencies = s.folio.currencies ∧ t.folio.outlets = s.folio.outlets)
      ∧ (∀ k h, (s.holdAt k).status = .active h → h.expiry = v →
        t.holdAt k = ⟨.lapsed h, (s.holdAt k).generation⟩)
      ∧ (∀ k, ending k = false → t.holdAt k = s.holdAt k)
      ∧ t.hold.lapsed = s.hold.lapsed ++ (s.hold.slots.map Prod.fst).filter ending
      ∧ (∀ k, t.folioAt k = (s.folioAt k).map (fun x => { x with
          held := x.held - s.sumHolds (fun h => ends h && h.folio == k)
          holds := x.holds.filter (fun j => !ending j) }))
      ∧ (∀ k, t.guestAt k = (s.guestAt k).map (fun g => { g with
          held := g.held - s.sumHolds (fun h => ends h && h.guest == k) }))
      ∧ t.roster.enrolled = s.roster.enrolled
      ∧ (∀ b : Nat, t.notice.flags.getLsbD b = (s.notice.flags.getLsbD b
        || (b == 3 && (s.hold.slots.map Prod.fst).any ending) || (b == 4 && decide rolls)))
      ∧ { t.notice with flags := s.notice.flags } = s.notice
      ∧ t.store = s.store ∧ t.cards = s.cards ∧ t.cabin = s.cabin ∧ t.tally = s.tally ∧ t.mode = s.mode
      ∧ t.field = s.field ∧ t.link = s.link ∧ t.draws = s.draws ∧ t.pending = s.pending)
    ∧ (c.running = false → exec .secondArrival s = .next s ∧ exec .minuteTick s = .next s
      ∧ exec .holdLapse s = .next s)
    ∧ (c.running = true →
      (tick → exec .minuteTick s = exec .secondArrival s) ∧ (¬ tick → exec .minuteTick s = .next s)
      ∧ (Table.wf s.hold.slots → ((∃ k, ending k = true) → exec .holdLapse s = exec .secondArrival s)
        ∧ ((∀ k, ending k = false) → exec .holdLapse s = .next s)))

/-- SET_CLOCK, SHIFT_LOCAL_TIME and SET_ROLLOVER_MINUTE, and what a taken rollover installs. The periods counted
when SET_CLOCK starts a stopped clock are a free value, log entry 3; the width of the local minute is log entry
25. -/
def Obligations.ClockCommands : Prop :=
  (∀ (s : State) (tag : Byte), s.SlotEmpty →
      let c := s.clock
      (∀ day minute : Nat, day ≤ 999 → minute ≤ 1439 →
        let f := frameOf tag (e16 day ++ e16 minute)
        exec (.setClock f) s = .next ({ s with clock := { c with
          running := true, second := 0, minute := minute, day := day, lastRollover := c.voyage
          phase := if c.running then c.phase else (Config.clockPhase s.draws).val } }.answered 0x90 f .done (e16 day ++ e16 minute ++ e32 c.voyage)))
      ∧ (∀ minute : Nat, minute ≤ 1439 →
        let f := frameOf tag (e16 minute)
        exec (.setRolloverMinute f) s = .next ({ s with clock := { c with rollover := minute } }.answered
          0x92 f .done (e16 minute)))
      ∧ (∀ day minute : Nat, day < 65536 → minute < 65536 → 999 < day ∨ 1439 < minute →
        let f := frameOf tag (e16 day ++ e16 minute)
        exec (.setClock f) s = .next (s.answered 0x90 f .range []))
      ∧ (∀ minute : Nat, minute < 65536 → 1439 < minute →
        let f := frameOf tag (e16 minute)
        exec (.setRolloverMinute f) s = .next (s.answered 0x92 f .range []))
      ∧ (∀ d : Int, -32768 ≤ d → d ≤ 32767 → d < -180 ∨ 180 < d →
        let f := frameOf tag (e16 (d % 65536).toNat)
        exec (.shiftLocalTime f) s = .next (s.answered 0x91 f .range []))
      ∧ ∀ d : Int, -180 ≤ d → d ≤ 180 →
        let f := frameOf tag (e16 (d % 65536).toNat)
        (c.running = false → exec (.shiftLocalTime f) s = .next (s.answered 0x91 f .wrongState []))
        ∧ (c.running = true → c.minute ≤ 1439 → c.rollover ≤ 1439 →
          let minute : Nat := ((c.minute + d) % 1440).toNat
          let shifted : State := { s with clock := { c with minute := minute } }
          let crosses : Prop := ∃ j : Nat, 1 ≤ j ∧ (j : Int) ≤ d ∧ (c.minute + j) % 1440 = c.rollover
          (¬ crosses → exec (.shiftLocalTime f) s = .next (shifted.answered 0x91 f .done (e16 minute ++ e8 0)))
          ∧ (crosses → 72000 ≤ c.voyage - c.lastRollover →
            exec (.shiftLocalTime f) s = .next (shifted.rollDay.answered 0x91 f .done (e16 minute ++ e8 1)))
          ∧ (crosses → c.voyage - c.lastRollover < 72000 →
            exec (.shiftLocalTime f) s = .next (shifted.answered 0x91 f .done (e16 minute ++ e8 2)))))
    ∧ ∀ s : State, Table.wf s.folio.outlets →
      { s.rollDay with folio := s.folio } = { s with
        clock := { s.clock with
          day := if s.clock.day = 999 then 999 else s.clock.day + 1, lastRollover := s.clock.voyage }
        notice := { s.notice with flags := s.notice.flags ||| 0x10#13 } }
      ∧ s.rollDay.folio.folios = s.folio.folios
      ∧ (∀ k : Fin 8, cell s.rollDay.folio.currencies k =
        let x := cell s.folio.currencies k
        { x with live := x.staged.getD x.live, staged := none })
      ∧ ∀ k : Nat, s.rollDay.outletAt k =
        let x := s.outletAt k
        { x with gratuity := x.staged.getD x.gratuity, staged := none }

/-- HALT_FIELD and RESUME_FIELD set field service; ADD_POST and REMOVE_POST change one entry. The post table is
in its form (TablesSorted). The byte of RUNNING and HALTED is log entry 10, the payload of ADD_POST log entries
25 and 26. -/
def Obligations.FieldServiceAndPosts : Prop :=
  ∀ (s : State) (tag : Byte), s.SlotEmpty →
    let empty := frameOf tag []
    exec (.haltField empty) s = .next ({ s with field := { s.field with running := false } }.answered
      0xA0 empty .done (e8 1))
    ∧ exec (.resumeField empty) s = .next ({ s with field := { s.field with running := true } }.answered
      0xA1 empty .done (e8 0))
    ∧ (∀ lane address kind outlet gangway direction station : Nat, s.store.part = .setup → lane < 65536 →
      address < 65536 → kind < 256 → outlet < 65536 → gangway < 65536 → direction < 256 → station < 65536 →
      ¬ (lane ≤ 3 ∧ address ≤ 1023 ∧ kind ≤ 2 ∧ (kind = 0 → outlet ≤ 63)
        ∧ (kind = 1 → gangway ≤ 7 ∧ direction ≤ 2) ∧ (kind = 2 → station ≤ 15)) →
      let f := frameOf tag (e16 lane ++ e16 address ++ e8 kind ++ e16 outlet ++ e16 gangway ++ e8 direction
        ++ e16 station)
      exec (.addPost f) s = .next (s.answered 0xA2 f .range []))
    ∧ (∀ lane address : Nat, lane < 65536 → address < 65536 → 3 < lane ∨ 1023 < address →
      let f := frameOf tag (e16 lane ++ e16 address)
      exec (.removePost f) s = .next (s.answered 0xA3 f .range []))
    ∧ ∀ (n : Fin 4) (terminal : BitVec 10), Table.wf s.field.posts →
      let pair : List Byte := e16 n.val ++ e16 terminal.toNat
      let posts : Table Post → State := fun t => { s with field := { s.field with posts := t } }
      (∀ (kind : PostKind) (outlet gangway station : Nat) (direction : Byte), s.store.part = .setup →
        let f := frameOf tag (pair ++ (match kind with
          | .till o => e8 0 ++ e16 o.val ++ e16 gangway ++ [direction] ++ e16 station
          | .gate w d => e8 1 ++ e16 outlet ++ e16 w.val
              ++ e8 (match d with | .toggle => 0 | .outbound => 1 | .inbound => 2) ++ e16 station
          | .musterReader x => e8 2 ++ e16 outlet ++ e16 gangway ++ [direction] ++ e16 x.val))
        ((∀ e ∈ s.field.posts, e.2.lane = n → e.2.terminal ≠ terminal) →
          ∀ k, k < 256 → Table.find s.field.posts k = none → (∀ j, j < k → Table.find s.field.posts j ≠ none) →
          exec (.addPost f) s = .next ((posts (Table.put s.field.posts k ⟨n, terminal, kind⟩)).answered
            0xA2 f .done (e16 k)))
        ∧ ((∀ e ∈ s.field.posts, e.2.lane = n → e.2.terminal ≠ terminal) →
          (∀ j, j < 256 → Table.find s.field.posts j ≠ none) →
          exec (.addPost f) s = .next (s.answered 0xA2 f .capacity []))
        ∧ ((∃ e ∈ s.field.posts, e.2.lane = n ∧ e.2.terminal = terminal) →
          exec (.addPost f) s = .next (s.answered 0xA2 f .duplicate [])))
      ∧ (let f := frameOf tag pair
        (∀ (k : Nat) (kind : PostKind), s.postAt n terminal = some (k, ⟨n, terminal, kind⟩) →
          exec (.removePost f) s = .next ((posts (Table.erase s.field.posts k)).answered 0xA3 f .done (e16 k)))
        ∧ ((∀ e ∈ s.field.posts, e.2.lane = n → e.2.terminal ≠ terminal) →
          exec (.removePost f) s = .next (s.answered 0xA3 f .notFound [])))

/-- A good frame becomes a request, a BUSY answer or a discard; a bad frame is discarded with LANE_FAULT. The
bytes of a REQUEST_FRAME are log entry 29, the IDLE case log entry 5, the view of FLnTX log entry 6. -/
def Obligations.LaneFrames : Prop :=
  ∀ (s : State) (n : Fin 4),
    let l := s.laneAt n
    let put : Lane → State := fun x => { s with field := { s.field with lanes := putCell s.field.lanes n x } }
    let fault : State := { s with notice := { s.notice with
      flags := s.notice.flags ||| 4#13, laneBits := s.notice.laneBits ||| BitVec.twoPow 4 n.val } }
    let kinds : List (Nat × RequestKind × Nat) := [(1, .entry, 8), (2, .privacy, 4), (3, .charge, 11),
      (4, .balance, 5), (5, .authorise, 11), (6, .complete, 7), (7, .void, 2), (8, .gate, 5), (9, .muster, 5)]
    let part : List Byte → State := fun bytes => put { l with receiver := bytes }
    (l.receiver = [] → (∀ (address : Nat) (sequence code : Byte) (payload : List Byte) (crc : BitVec 16), address < 65536 →
      payload.length ≤ 11 →
      let body : List Byte := e16 address ++ [sequence, code] ++ e8 payload.length ++ payload
      let frame : List Byte := 0xA5 :: body ++ e16 crc.toNat
      (∀ kind : RequestKind, (code.toNat, kind, payload.length) ∈ kinds → crc = crc16 body →
        (kind = .privacy → payload.getLastD 0 = 0 ∨ payload.getLastD 0 = 1) →
        let busy : Reply := ⟨BitVec.ofNat 10 address, sequence, kind, .busy, []⟩
        (l.queue.length < 8 → exec (.requestFrame n frame) s = .next (put { l with
            queue := l.queue ++ [⟨BitVec.ofNat 10 address, sequence, kind, payload⟩] }))
        ∧ (8 ≤ l.queue.length →
          (l.busy.length < 8 → l.transmitter = .idle →
            exec (.requestFrame n frame) s = .next (put { l with transmitter := .sending busy }))
          ∧ (l.busy.length < 8 → l.transmitter ≠ .idle →
            exec (.requestFrame n frame) s = .next (put { l with busy := l.busy ++ [busy] }))
          ∧ (8 ≤ l.busy.length → exec (.requestFrame n frame) s = .next fault)))
      ∧ (crc ≠ crc16 body ∨ (∀ kind, (code.toNat, kind, payload.length) ∉ kinds)
          ∨ (code = 2 ∧ payload.getLastD 0 ≠ 0 ∧ payload.getLastD 0 ≠ 1) →
        exec (.requestFrame n frame) s = .next fault)
      ∧ (∀ first second : List Byte, frame = first ++ second → second ≠ [] →
        exec (.requestFrame n first) s = .next (part first)
        ∧ exec (.requestFrame n second) (part first) = exec (.requestFrame n frame) s
        ∧ ∀ middle last : List Byte, second = middle ++ last → last ≠ [] →
          exec (.requestFrame n middle) (part first) = .next (part (first ++ middle))))
    ∧ (∀ (address : Nat) (sequence code length : Byte), 11 < length.toNat →
      let header : List Byte := 0xA5 :: e16 address ++ [sequence, code, length]
      exec (.requestFrame n header) s = .next fault
      ∧ (∀ more, exec (.requestFrame n (header ++ more)) s = exec (.requestFrame n more) fault)
      ∧ ∀ k, k < 6 → exec (.requestFrame n (header.take k)) s = .next (part (header.take k))
        ∧ exec (.requestFrame n (header.drop k)) (part (header.take k)) = .next fault)
    ∧ (∀ b : Byte, b ≠ 0xA5 → exec (.requestFrame n [b]) s = .next s))
    ∧ (∀ bytes more : List Byte, ∃ t, exec (.requestFrame n bytes) s = .next t
      ∧ exec (.requestFrame n (bytes ++ more)) s = exec (.requestFrame n more) t)
    ∧ (l.transmitter = .idle → exec (.replyFrameComplete n) s = .next s)
    ∧ ∀ (x : Reply), l.transmitter = .sending x →
      let code : Nat := match x.kind with
        | .entry => 1 | .privacy => 2 | .charge => 3 | .balance => 4 | .authorise => 5 | .complete => 6
        | .void => 7 | .gate => 8 | .muster => 9
      let body : List Byte := e16 x.terminal.toNat ++ [x.sequence] ++ e8 code ++ [reasonCode x.reason]
        ++ e8 x.data.length ++ x.data
      let sent : List Byte := 0xA5 :: body ++ e16 (crc16 body).toNat
      (∀ b rest, l.busy = b :: rest → exec (.replyFrameComplete n) s
        = .next (put { l with transmitter := .sending b, busy := rest, sent := sent }))
      ∧ (l.busy = [] → exec (.replyFrameComplete n) s = .next (put { l with transmitter := .idle, sent := sent }))

/-- SET_NOTICES and CLEAR_NOTICES, and the attention lines that follow the flags. A level is true for high. That
the flags answered do not show the COMMAND_DONE of this response and that bits 13 to 15 of a mask are sent as 0
are the model's choices, log entries 39 and 42. -/
def Obligations.NoticeCommands : Prop :=
  (∀ (s : State) (tag : Byte), s.SlotEmpty →
      (∀ (mask : BitVec 16) (routing : Routing) (p q : Polarity),
        let codes : List Byte := e8 (match routing with | .single => 0 | .split => 1)
          ++ e8 (match p with | .activeHigh => 0 | .activeLow => 1)
          ++ e8 (match q with | .activeHigh => 0 | .activeLow => 1)
        let f := frameOf tag (e16 mask.toNat ++ codes)
        exec (.setNotices f) s = .next ({ s with notice := { s.notice with
          enables := mask.setWidth 13, routing := routing, polarity0 := p, polarity1 := q } }.answered
          0xB0 f .done (e16 (mask.toNat % 8192) ++ codes)))
      ∧ (∀ mask routing p q : Nat, mask < 65536 → routing < 256 → p < 256 → q < 256 →
        ¬ (routing ≤ 1 ∧ p ≤ 1 ∧ q ≤ 1) →
        let f := frameOf tag (e16 mask ++ e8 routing ++ e8 p ++ e8 q)
        exec (.setNotices f) s = .next (s.answered 0xB0 f .range []))
      ∧ ∀ mask : BitVec 16,
        let f := frameOf tag (e16 mask.toNat)
        let left : BitVec 13 := s.notice.flags &&& ~~~(mask.setWidth 13)
        exec (.clearNotices f) s = .next ({ s with
          notice := { s.notice with
            flags := left
            laneBits := if mask.getLsbD 2 then 0 else s.notice.laneBits
            inputBits := if mask.getLsbD 11 then 0 else s.notice.inputBits }
          tally := { s.tally with groupPending := if mask.getLsbD 6 then 0 else s.tally.groupPending } }.answered
          0xB1 f .done (e16 left.toNat)))
    ∧ ∀ u : NoticeUnit,
      let any : Nat → Nat → Bool := fun lo hi =>
        (List.range 13).any (fun k => decide (lo ≤ k ∧ k < hi) && u.flags.getLsbD k && u.enables.getLsbD k)
      let active0 : Bool := match u.routing with | .single => any 0 13 | .split => any 0 7
      let active1 : Bool := match u.routing with | .single => false | .split => any 7 13
      u.atn0 = (match u.polarity0 with | .activeHigh => active0 | .activeLow => !active0)
      ∧ u.atn1 = (match u.polarity1 with | .activeHigh => active1 | .activeLow => !active1)

/-- The state after a cold start meets every property that the other invariants keep. The starting case of the
six invariants. -/
def Obligations.ResetIsSound : Prop :=
  State.reset.Sound

/-- Every step keeps the lanes bounded, the slot in step with the scrub, the clock in range. From every state,
not only from reset. -/
def Obligations.ControlStaysSound : Prop :=
  ∀ s t : State, s.ControlSound → step s = .next t → t.ControlSound

/-- Every step keeps the tables in their form and size, the partition, deck map and lane ranges valid. The
canonical form is the model's, log entry 4. -/
def Obligations.TablesStaySound : Prop :=
  ∀ s t : State, s.TablesSound → step s = .next t → t.TablesSound

/-- Every step keeps the tallies equal to what they count. From every state, not only from reset. -/
def Obligations.TalliesStayExact : Prop :=
  ∀ s t : State, s.TalliesSound → step s = .next t → t.TalliesSound

/-- Every step keeps member counts and occupant lists exact, the guests in range and the keys distinct. From
every state, not only from reset. -/
def Obligations.AssignmentsStayExact : Prop :=
  ∀ s t : State, step s = .next t →
    (s.AssignmentsSound → t.AssignmentsSound) ∧ (s.RangesSound → t.RangesSound)

/-- Every step keeps every card findable by its serial, and the card lists exact. From every state, not only
from reset. -/
def Obligations.CardsStaySound : Prop :=
  ∀ s t : State, s.CardsSound → step s = .next t → t.CardsSound

/-- Every step keeps held totals, held amounts, hold lists and the lapsed list equal to the holds. From every
state, not only from reset. -/
def Obligations.HoldsStayExact : Prop :=
  ∀ s t : State, s.HoldsSound → step s = .next t → t.HoldsSound

/-- No host command clears a mode flag while an enabled input of its role is ASSERTED. The second clause is over
every command, from every state. -/
def Obligations.ClaimedModesStaySet : Prop :=
  (∀ (c : Instr) (s t : State) (n : Fin 4), c.hostFrame.isSome = true → exec c s = .next t →
      (s.inputAt n).enabled = true → (s.inputAt n).asserted = true →
      ((s.inputAt n).role = .muster → s.mode.muster = true → t.mode.muster = true)
      ∧ ((s.inputAt n).role = .lockdown → s.mode.lockdown = true → t.mode.lockdown = true)
      ∧ ((s.inputAt n).role = .chargeStop → s.mode.charging = true → t.mode.charging = true))
    ∧ ∀ (c : Instr) (s t : State), exec c s = .next t → c ≠ .coldStart →
      (s.mode.muster = true → t.mode.muster = false → ∃ f, c = .endMuster f)
      ∧ (s.mode.lockdown = true → t.mode.lockdown = false → ∃ f, c = .clearLockdown f)
      ∧ (s.mode.charging = true → t.mode.charging = false → ∃ f, c = .resumeCharging f)

/-- No field request raises a folio above its credit line or a guest above the day limit. HoldsSound is kept by
every step. -/
def Obligations.FieldRequestsKeepLimits : Prop :=
  ∀ (s t : State) (n : Fin 4) (c : Instr), s.HoldsSound →
    c ∈ [Instr.entry n, .privacy n, .charge n, .balance n, .authorise n, .complete n, .void n, .gate n, .muster n] →
    exec c s = .next t →
    (∀ (k : Nat) (y : Folio), t.folioAt k = some y → ∃ x, s.folioAt k = some x ∧ y.credit = x.credit
      ∧ y.balance + y.held ≤ max (x.credit : Int) (x.balance + x.held))
    ∧ ∀ (k : Nat) (h : Guest), t.guestAt k = some h → ∃ g, s.guestAt k = some g ∧ h.dayLimit = g.dayLimit
      ∧ ∀ l ∈ g.dayLimit,
        (if h.spendDay = t.clock.day then h.spent else 0) + h.held
          ≤ max l ((if g.spendDay = s.clock.day then g.spent else 0) + g.held)

/-- A guest's presence changes only at the causes and between the values that R116 lists. Over all 87 commands
and events. -/
def Obligations.PresenceChangesOnlyAsListed : Prop :=
  ∀ (c : Instr) (s t : State) (k : Nat) (g h : Guest), Table.wf s.roster.guests → exec c s = .next t →
    s.guestAt k = some g → t.guestAt k = some h → h.presence ≠ g.presence →
    let request : Prop := ∃ n, c = .gate n ∨ c = .entry n ∨ c = .muster n
    let gate : Prop := ∃ n, c = .gate n
    let set : Prop := ∃ f, c = .setPresence f
    (h.presence = .aboard ∧ (g.presence = .expected ∨ g.presence = .ashore) ∧ (request ∨ set))
    ∨ (g.presence = .aboard ∧ h.presence = .ashore ∧ (gate ∨ set))
    ∨ (h.presence = .expected ∧ (g.presence = .aboard ∨ g.presence = .ashore) ∧ set)
    ∨ (g.presence = .expected ∧ h.presence = .ashore ∧ set)
    ∨ (h.presence = .departed ∧ (g.presence = .expected ∨ g.presence = .ashore) ∧ ∃ f, c = .departGuest f)
end

