-- ==== Sys2Proof/Laws/Bytes.lean ====
section
/-! SUPPORT. A number read from a payload is the number that was written into it, and the fields before it are passed over. -/

namespace Sys2Proof.Machine

@[simp] theorem length_e8 (n : Nat) : (e8 n).length = 1 := rfl
@[simp] theorem length_e16 (n : Nat) : (e16 n).length = 2 := rfl
@[simp] theorem length_e32 (n : Nat) : (e32 n).length = 4 := rfl
@[simp] theorem length_eWord (w : BitVec 16) : (eWord w).length = 2 := rfl
@[simp] theorem length_eMask (w : BitVec 13) : (eMask w).length = 2 := rfl
@[simp] theorem length_eCode (c : CabinCode) : (eCode c).length = 3 := rfl

/-- A number of one byte. -/
@[simp] theorem u8_e8 (n : Nat) (p : List Byte) : u8 (e8 n ++ p) 0 = n % 256 := rfl

@[simp] theorem u8_e8_nil (n : Nat) : u8 (e8 n) 0 = n % 256 := rfl

/-- A number of two bytes. -/
@[simp] theorem u16_e16 (n : Nat) (p : List Byte) : u16 (e16 n ++ p) 0 = n % 65536 := by
  show n / 256 % 256 * 256 + n % 256 = n % 65536
  omega

@[simp] theorem u16_e16_nil (n : Nat) : u16 (e16 n) 0 = n % 65536 := by
  simpa using u16_e16 n []

/-- A number of four bytes. -/
@[simp] theorem u32_e32 (n : Nat) (p : List Byte) : u32 (e32 n ++ p) 0 = n % 4294967296 := by
  show (n / 65536 / 256 % 256 * 256 + n / 65536 % 256) * 65536 + (n % 65536 / 256 % 256 * 256 + n % 65536 % 256)
    = n % 4294967296
  omega

@[simp] theorem u32_e32_nil (n : Nat) : u32 (e32 n) 0 = n % 4294967296 := by
  simpa using u32_e32 n []

theorem byteAt_append (a p : List Byte) (k : Nat) : byteAt (a ++ p) (k + a.length) = byteAt p k := by
  simp [byteAt, List.getElem?_append_right (Nat.le_add_left a.length k)]

/-- A cabin code; the filler nibble is sent as 0 and ignored. -/
@[simp] theorem cabinCodeAt_eCode (c : CabinCode) (p : List Byte) : cabinCodeAt (eCode c ++ p) 0 = c := by
  have h : cabinCodeAt (eCode c ++ p) 0
      = (BitVec.ofNat 8 (c.toNat / 65536) ++ BitVec.ofNat 8 (c.toNat % 65536 / 256)
          ++ BitVec.ofNat 8 (c.toNat % 65536)).setWidth 20 := rfl
  rw [h]
  apply BitVec.eq_of_toNat_eq
  have := c.isLt
  simp only [BitVec.toNat_setWidth, BitVec.toNat_append, BitVec.toNat_ofNat, Nat.shiftLeft_eq]
  rw [← Nat.shiftLeft_eq, ← Nat.shiftLeft_eq, ← Nat.shiftLeft_add_eq_or_of_lt, ← Nat.shiftLeft_add_eq_or_of_lt]
  · simp only [Nat.shiftLeft_eq]; omega
  · omega
  · omega

@[simp] theorem cabinCodeAt_eCode_nil (c : CabinCode) : cabinCodeAt (eCode c) 0 = c := by
  simpa using cabinCodeAt_eCode c []

/-! A field read behind others. -/

@[simp] theorem byteAt_e8 (n : Nat) (p : List Byte) (k : Nat) : byteAt (e8 n ++ p) (k + 1) = byteAt p k :=
  byteAt_append (e8 n) p k
@[simp] theorem byteAt_e16 (n : Nat) (p : List Byte) (k : Nat) : byteAt (e16 n ++ p) (k + 2) = byteAt p k :=
  byteAt_append (e16 n) p k
@[simp] theorem byteAt_e32 (n : Nat) (p : List Byte) (k : Nat) : byteAt (e32 n ++ p) (k + 4) = byteAt p k :=
  byteAt_append (e32 n) p k
@[simp] theorem byteAt_eCode (c : CabinCode) (p : List Byte) (k : Nat) :
    byteAt (eCode c ++ p) (k + 3) = byteAt p k :=
  byteAt_append (eCode c) p k
@[simp] theorem u8_after_e8 (n : Nat) (p : List Byte) (k : Nat) : u8 (e8 n ++ p) (k + 1) = u8 p k := by
  simp [u8]
@[simp] theorem u8_after_e16 (n : Nat) (p : List Byte) (k : Nat) : u8 (e16 n ++ p) (k + 2) = u8 p k := by
  simp [u8]
@[simp] theorem u8_after_e32 (n : Nat) (p : List Byte) (k : Nat) : u8 (e32 n ++ p) (k + 4) = u8 p k := by
  simp [u8]
@[simp] theorem u8_after_eCode (c : CabinCode) (p : List Byte) (k : Nat) : u8 (eCode c ++ p) (k + 3) = u8 p k := by
  simp [u8]
@[simp] theorem u16_after_e8 (n : Nat) (p : List Byte) (k : Nat) : u16 (e8 n ++ p) (k + 1) = u16 p k := by
  have := u8_after_e8 n p (k + 1)
  simp_all [u16]
@[simp] theorem u16_after_e16 (n : Nat) (p : List Byte) (k : Nat) : u16 (e16 n ++ p) (k + 2) = u16 p k := by
  have := u8_after_e16 n p (k + 1)
  simp_all [u16]
@[simp] theorem u16_after_e32 (n : Nat) (p : List Byte) (k : Nat) : u16 (e32 n ++ p) (k + 4) = u16 p k := by
  have := u8_after_e32 n p (k + 1)
  simp_all [u16]
@[simp] theorem u16_after_eCode (c : CabinCode) (p : List Byte) (k : Nat) :
    u16 (eCode c ++ p) (k + 3) = u16 p k := by
  have := u8_after_eCode c p (k + 1)
  simp_all [u16]
@[simp] theorem u32_after_e8 (n : Nat) (p : List Byte) (k : Nat) : u32 (e8 n ++ p) (k + 1) = u32 p k := by
  have := u16_after_e8 n p (k + 2)
  simp_all [u32]
@[simp] theorem u32_after_e16 (n : Nat) (p : List Byte) (k : Nat) : u32 (e16 n ++ p) (k + 2) = u32 p k := by
  have := u16_after_e16 n p (k + 2)
  simp_all [u32]
@[simp] theorem u32_after_e32 (n : Nat) (p : List Byte) (k : Nat) : u32 (e32 n ++ p) (k + 4) = u32 p k := by
  have := u16_after_e32 n p (k + 2)
  simp_all [u32]
@[simp] theorem u32_after_eCode (c : CabinCode) (p : List Byte) (k : Nat) :
    u32 (eCode c ++ p) (k + 3) = u32 p k := by
  have := u16_after_eCode c p (k + 2)
  simp_all [u32]

@[simp] theorem cabinCodeAt_after_e8 (n : Nat) (p : List Byte) (k : Nat) :
    cabinCodeAt (e8 n ++ p) (k + 1) = cabinCodeAt p k := by
  have h1 := byteAt_e8 n p (k + 1)
  have h2 := byteAt_e8 n p (k + 2)
  simp_all [cabinCodeAt]
@[simp] theorem cabinCodeAt_after_e16 (n : Nat) (p : List Byte) (k : Nat) :
    cabinCodeAt (e16 n ++ p) (k + 2) = cabinCodeAt p k := by
  have h1 := byteAt_e16 n p (k + 1)
  have h2 := byteAt_e16 n p (k + 2)
  simp_all [cabinCodeAt]
@[simp] theorem cabinCodeAt_after_e32 (n : Nat) (p : List Byte) (k : Nat) :
    cabinCodeAt (e32 n ++ p) (k + 4) = cabinCodeAt p k := by
  have h1 := byteAt_e32 n p (k + 1)
  have h2 := byteAt_e32 n p (k + 2)
  simp_all [cabinCodeAt]

/-! Enumerations and markers. -/

@[simp] theorem enumAt_e8 {α : Type} (values : List α) (n : Nat) (p : List Byte) :
    enumAt values (e8 n ++ p) 0 = values[n % 256]? := by
  simp [enumAt]

@[simp] theorem enumAt_after_e8 {α : Type} (values : List α) (n : Nat) (p : List Byte) (k : Nat) :
    enumAt values (e8 n ++ p) (k + 1) = enumAt values p k := by
  simp [enumAt]

@[simp] theorem enumAt_after_e16 {α : Type} (values : List α) (n : Nat) (p : List Byte) (k : Nat) :
    enumAt values (e16 n ++ p) (k + 2) = enumAt values p k := by
  simp [enumAt]

@[simp] theorem enumAt_after_e32 {α : Type} (values : List α) (n : Nat) (p : List Byte) (k : Nat) :
    enumAt values (e32 n ++ p) (k + 4) = enumAt values p k := by
  simp [enumAt]

@[simp] theorem enumAt_e8_nil {α : Type} (values : List α) (n : Nat) : enumAt values (e8 n) 0 = values[n % 256]? := by
  simp [enumAt]

@[simp] theorem enumAt_after_eCode {α : Type} (values : List α) (c : CabinCode) (p : List Byte) (k : Nat) :
    enumAt values (eCode c ++ p) (k + 3) = enumAt values p k := by
  simp [enumAt]

@[simp] theorem length_eEnum {α : Type} [DecidableEq α] (values : List α) (v : α) : (eEnum values v).length = 1 := rfl

/-- An enumeration byte names the value it was written for. -/
theorem enumAt_eEnum {α : Type} [DecidableEq α] (values : List α) (v : α) (p : List Byte) (h : v ∈ values)
    (hl : values.length ≤ 256) : enumAt values (eEnum values v ++ p) 0 = some v := by
  have := List.idxOf_lt_length_of_mem h
  unfold eEnum
  rw [enumAt_e8, Nat.mod_eq_of_lt (by omega)]
  simp [this]

/-- A word of sixteen enables. -/
@[simp] theorem word16_e16 (x : BitVec 16) (p : List Byte) : word16 (e16 x.toNat ++ p) 0 = x := by
  show BitVec.ofNat 8 (x.toNat / 256) ++ BitVec.ofNat 8 x.toNat = x
  apply BitVec.eq_of_toNat_eq
  have := x.isLt
  rw [BitVec.toNat_append, ← Nat.shiftLeft_add_eq_or_of_lt (by simp; omega)]
  simp only [BitVec.toNat_ofNat, Nat.shiftLeft_eq]
  omega

@[simp] theorem word16_e16_nil (x : BitVec 16) : word16 (e16 x.toNat) 0 = x := by
  simpa using word16_e16 x []

/-- A vector sent entry by entry. -/
theorem flatMap_toList {α β : Type} {n : Nat} (v : Vector α n) (f : α → List β) :
    v.toList.flatMap f = (List.finRange n).flatMap (fun i => f (cell v i)) := by
  have h : v.toList = (List.finRange n).map (fun i => cell v i) := by
    apply List.ext_getElem <;> simp [cell]
  rw [h, List.flatMap_map]

end Sys2Proof.Machine
end

