-- ==== Sys2Proof/Laws/State.lean ====
section
/-! SUPPORT. One lemma per field for each update of State, so that no later proof unfolds a record update. -/

namespace Sys2Proof.Machine

@[simp] theorem State.withStore_store (s : State) (x : Store) : (s.withStore x).store = x := rfl
@[simp] theorem State.withStore_cards (s : State) (x : Store) : (s.withStore x).cards = s.cards := rfl
@[simp] theorem State.withStore_roster (s : State) (x : Store) : (s.withStore x).roster = s.roster := rfl
@[simp] theorem State.withStore_cabin (s : State) (x : Store) : (s.withStore x).cabin = s.cabin := rfl
@[simp] theorem State.withStore_folio (s : State) (x : Store) : (s.withStore x).folio = s.folio := rfl
@[simp] theorem State.withStore_hold (s : State) (x : Store) : (s.withStore x).hold = s.hold := rfl
@[simp] theorem State.withStore_tally (s : State) (x : Store) : (s.withStore x).tally = s.tally := rfl
@[simp] theorem State.withStore_mode (s : State) (x : Store) : (s.withStore x).mode = s.mode := rfl
@[simp] theorem State.withStore_clock (s : State) (x : Store) : (s.withStore x).clock = s.clock := rfl
@[simp] theorem State.withStore_field (s : State) (x : Store) : (s.withStore x).field = s.field := rfl
@[simp] theorem State.withStore_link (s : State) (x : Store) : (s.withStore x).link = s.link := rfl
@[simp] theorem State.withStore_notice (s : State) (x : Store) : (s.withStore x).notice = s.notice := rfl
@[simp] theorem State.withStore_draws (s : State) (x : Store) : (s.withStore x).draws = s.draws := rfl
@[simp] theorem State.withStore_pending (s : State) (x : Store) : (s.withStore x).pending = s.pending := rfl

@[simp] theorem State.withCards_store (s : State) (x : CardTable) : (s.withCards x).store = s.store := rfl
@[simp] theorem State.withCards_cards (s : State) (x : CardTable) : (s.withCards x).cards = x := rfl
@[simp] theorem State.withCards_roster (s : State) (x : CardTable) : (s.withCards x).roster = s.roster := rfl
@[simp] theorem State.withCards_cabin (s : State) (x : CardTable) : (s.withCards x).cabin = s.cabin := rfl
@[simp] theorem State.withCards_folio (s : State) (x : CardTable) : (s.withCards x).folio = s.folio := rfl
@[simp] theorem State.withCards_hold (s : State) (x : CardTable) : (s.withCards x).hold = s.hold := rfl
@[simp] theorem State.withCards_tally (s : State) (x : CardTable) : (s.withCards x).tally = s.tally := rfl
@[simp] theorem State.withCards_mode (s : State) (x : CardTable) : (s.withCards x).mode = s.mode := rfl
@[simp] theorem State.withCards_clock (s : State) (x : CardTable) : (s.withCards x).clock = s.clock := rfl
@[simp] theorem State.withCards_field (s : State) (x : CardTable) : (s.withCards x).field = s.field := rfl
@[simp] theorem State.withCards_link (s : State) (x : CardTable) : (s.withCards x).link = s.link := rfl
@[simp] theorem State.withCards_notice (s : State) (x : CardTable) : (s.withCards x).notice = s.notice := rfl
@[simp] theorem State.withCards_draws (s : State) (x : CardTable) : (s.withCards x).draws = s.draws := rfl
@[simp] theorem State.withCards_pending (s : State) (x : CardTable) : (s.withCards x).pending = s.pending := rfl

@[simp] theorem State.withRoster_store (s : State) (x : Roster) : (s.withRoster x).store = s.store := rfl
@[simp] theorem State.withRoster_cards (s : State) (x : Roster) : (s.withRoster x).cards = s.cards := rfl
@[simp] theorem State.withRoster_roster (s : State) (x : Roster) : (s.withRoster x).roster = x := rfl
@[simp] theorem State.withRoster_cabin (s : State) (x : Roster) : (s.withRoster x).cabin = s.cabin := rfl
@[simp] theorem State.withRoster_folio (s : State) (x : Roster) : (s.withRoster x).folio = s.folio := rfl
@[simp] theorem State.withRoster_hold (s : State) (x : Roster) : (s.withRoster x).hold = s.hold := rfl
@[simp] theorem State.withRoster_tally (s : State) (x : Roster) : (s.withRoster x).tally = s.tally := rfl
@[simp] theorem State.withRoster_mode (s : State) (x : Roster) : (s.withRoster x).mode = s.mode := rfl
@[simp] theorem State.withRoster_clock (s : State) (x : Roster) : (s.withRoster x).clock = s.clock := rfl
@[simp] theorem State.withRoster_field (s : State) (x : Roster) : (s.withRoster x).field = s.field := rfl
@[simp] theorem State.withRoster_link (s : State) (x : Roster) : (s.withRoster x).link = s.link := rfl
@[simp] theorem State.withRoster_notice (s : State) (x : Roster) : (s.withRoster x).notice = s.notice := rfl
@[simp] theorem State.withRoster_draws (s : State) (x : Roster) : (s.withRoster x).draws = s.draws := rfl
@[simp] theorem State.withRoster_pending (s : State) (x : Roster) : (s.withRoster x).pending = s.pending := rfl

@[simp] theorem State.withCabin_store (s : State) (x : CabinUnit) : (s.withCabin x).store = s.store := rfl
@[simp] theorem State.withCabin_cards (s : State) (x : CabinUnit) : (s.withCabin x).cards = s.cards := rfl
@[simp] theorem State.withCabin_roster (s : State) (x : CabinUnit) : (s.withCabin x).roster = s.roster := rfl
@[simp] theorem State.withCabin_cabin (s : State) (x : CabinUnit) : (s.withCabin x).cabin = x := rfl
@[simp] theorem State.withCabin_folio (s : State) (x : CabinUnit) : (s.withCabin x).folio = s.folio := rfl
@[simp] theorem State.withCabin_hold (s : State) (x : CabinUnit) : (s.withCabin x).hold = s.hold := rfl
@[simp] theorem State.withCabin_tally (s : State) (x : CabinUnit) : (s.withCabin x).tally = s.tally := rfl
@[simp] theorem State.withCabin_mode (s : State) (x : CabinUnit) : (s.withCabin x).mode = s.mode := rfl
@[simp] theorem State.withCabin_clock (s : State) (x : CabinUnit) : (s.withCabin x).clock = s.clock := rfl
@[simp] theorem State.withCabin_field (s : State) (x : CabinUnit) : (s.withCabin x).field = s.field := rfl
@[simp] theorem State.withCabin_link (s : State) (x : CabinUnit) : (s.withCabin x).link = s.link := rfl
@[simp] theorem State.withCabin_notice (s : State) (x : CabinUnit) : (s.withCabin x).notice = s.notice := rfl
@[simp] theorem State.withCabin_draws (s : State) (x : CabinUnit) : (s.withCabin x).draws = s.draws := rfl
@[simp] theorem State.withCabin_pending (s : State) (x : CabinUnit) : (s.withCabin x).pending = s.pending := rfl

@[simp] theorem State.withFolio_store (s : State) (x : FolioUnit) : (s.withFolio x).store = s.store := rfl
@[simp] theorem State.withFolio_cards (s : State) (x : FolioUnit) : (s.withFolio x).cards = s.cards := rfl
@[simp] theorem State.withFolio_roster (s : State) (x : FolioUnit) : (s.withFolio x).roster = s.roster := rfl
@[simp] theorem State.withFolio_cabin (s : State) (x : FolioUnit) : (s.withFolio x).cabin = s.cabin := rfl
@[simp] theorem State.withFolio_folio (s : State) (x : FolioUnit) : (s.withFolio x).folio = x := rfl
@[simp] theorem State.withFolio_hold (s : State) (x : FolioUnit) : (s.withFolio x).hold = s.hold := rfl
@[simp] theorem State.withFolio_tally (s : State) (x : FolioUnit) : (s.withFolio x).tally = s.tally := rfl
@[simp] theorem State.withFolio_mode (s : State) (x : FolioUnit) : (s.withFolio x).mode = s.mode := rfl
@[simp] theorem State.withFolio_clock (s : State) (x : FolioUnit) : (s.withFolio x).clock = s.clock := rfl
@[simp] theorem State.withFolio_field (s : State) (x : FolioUnit) : (s.withFolio x).field = s.field := rfl
@[simp] theorem State.withFolio_link (s : State) (x : FolioUnit) : (s.withFolio x).link = s.link := rfl
@[simp] theorem State.withFolio_notice (s : State) (x : FolioUnit) : (s.withFolio x).notice = s.notice := rfl
@[simp] theorem State.withFolio_draws (s : State) (x : FolioUnit) : (s.withFolio x).draws = s.draws := rfl
@[simp] theorem State.withFolio_pending (s : State) (x : FolioUnit) : (s.withFolio x).pending = s.pending := rfl

@[simp] theorem State.withHold_store (s : State) (x : HoldPool) : (s.withHold x).store = s.store := rfl
@[simp] theorem State.withHold_cards (s : State) (x : HoldPool) : (s.withHold x).cards = s.cards := rfl
@[simp] theorem State.withHold_roster (s : State) (x : HoldPool) : (s.withHold x).roster = s.roster := rfl
@[simp] theorem State.withHold_cabin (s : State) (x : HoldPool) : (s.withHold x).cabin = s.cabin := rfl
@[simp] theorem State.withHold_folio (s : State) (x : HoldPool) : (s.withHold x).folio = s.folio := rfl
@[simp] theorem State.withHold_hold (s : State) (x : HoldPool) : (s.withHold x).hold = x := rfl
@[simp] theorem State.withHold_tally (s : State) (x : HoldPool) : (s.withHold x).tally = s.tally := rfl
@[simp] theorem State.withHold_mode (s : State) (x : HoldPool) : (s.withHold x).mode = s.mode := rfl
@[simp] theorem State.withHold_clock (s : State) (x : HoldPool) : (s.withHold x).clock = s.clock := rfl
@[simp] theorem State.withHold_field (s : State) (x : HoldPool) : (s.withHold x).field = s.field := rfl
@[simp] theorem State.withHold_link (s : State) (x : HoldPool) : (s.withHold x).link = s.link := rfl
@[simp] theorem State.withHold_notice (s : State) (x : HoldPool) : (s.withHold x).notice = s.notice := rfl
@[simp] theorem State.withHold_draws (s : State) (x : HoldPool) : (s.withHold x).draws = s.draws := rfl
@[simp] theorem State.withHold_pending (s : State) (x : HoldPool) : (s.withHold x).pending = s.pending := rfl

@[simp] theorem State.withTally_store (s : State) (x : Tally) : (s.withTally x).store = s.store := rfl
@[simp] theorem State.withTally_cards (s : State) (x : Tally) : (s.withTally x).cards = s.cards := rfl
@[simp] theorem State.withTally_roster (s : State) (x : Tally) : (s.withTally x).roster = s.roster := rfl
@[simp] theorem State.withTally_cabin (s : State) (x : Tally) : (s.withTally x).cabin = s.cabin := rfl
@[simp] theorem State.withTally_folio (s : State) (x : Tally) : (s.withTally x).folio = s.folio := rfl
@[simp] theorem State.withTally_hold (s : State) (x : Tally) : (s.withTally x).hold = s.hold := rfl
@[simp] theorem State.withTally_tally (s : State) (x : Tally) : (s.withTally x).tally = x := rfl
@[simp] theorem State.withTally_mode (s : State) (x : Tally) : (s.withTally x).mode = s.mode := rfl
@[simp] theorem State.withTally_clock (s : State) (x : Tally) : (s.withTally x).clock = s.clock := rfl
@[simp] theorem State.withTally_field (s : State) (x : Tally) : (s.withTally x).field = s.field := rfl
@[simp] theorem State.withTally_link (s : State) (x : Tally) : (s.withTally x).link = s.link := rfl
@[simp] theorem State.withTally_notice (s : State) (x : Tally) : (s.withTally x).notice = s.notice := rfl
@[simp] theorem State.withTally_draws (s : State) (x : Tally) : (s.withTally x).draws = s.draws := rfl
@[simp] theorem State.withTally_pending (s : State) (x : Tally) : (s.withTally x).pending = s.pending := rfl

@[simp] theorem State.withMode_store (s : State) (x : ModeUnit) : (s.withMode x).store = s.store := rfl
@[simp] theorem State.withMode_cards (s : State) (x : ModeUnit) : (s.withMode x).cards = s.cards := rfl
@[simp] theorem State.withMode_roster (s : State) (x : ModeUnit) : (s.withMode x).roster = s.roster := rfl
@[simp] theorem State.withMode_cabin (s : State) (x : ModeUnit) : (s.withMode x).cabin = s.cabin := rfl
@[simp] theorem State.withMode_folio (s : State) (x : ModeUnit) : (s.withMode x).folio = s.folio := rfl
@[simp] theorem State.withMode_hold (s : State) (x : ModeUnit) : (s.withMode x).hold = s.hold := rfl
@[simp] theorem State.withMode_tally (s : State) (x : ModeUnit) : (s.withMode x).tally = s.tally := rfl
@[simp] theorem State.withMode_mode (s : State) (x : ModeUnit) : (s.withMode x).mode = x := rfl
@[simp] theorem State.withMode_clock (s : State) (x : ModeUnit) : (s.withMode x).clock = s.clock := rfl
@[simp] theorem State.withMode_field (s : State) (x : ModeUnit) : (s.withMode x).field = s.field := rfl
@[simp] theorem State.withMode_link (s : State) (x : ModeUnit) : (s.withMode x).link = s.link := rfl
@[simp] theorem State.withMode_notice (s : State) (x : ModeUnit) : (s.withMode x).notice = s.notice := rfl
@[simp] theorem State.withMode_draws (s : State) (x : ModeUnit) : (s.withMode x).draws = s.draws := rfl
@[simp] theorem State.withMode_pending (s : State) (x : ModeUnit) : (s.withMode x).pending = s.pending := rfl

@[simp] theorem State.withClock_store (s : State) (x : Clock) : (s.withClock x).store = s.store := rfl
@[simp] theorem State.withClock_cards (s : State) (x : Clock) : (s.withClock x).cards = s.cards := rfl
@[simp] theorem State.withClock_roster (s : State) (x : Clock) : (s.withClock x).roster = s.roster := rfl
@[simp] theorem State.withClock_cabin (s : State) (x : Clock) : (s.withClock x).cabin = s.cabin := rfl
@[simp] theorem State.withClock_folio (s : State) (x : Clock) : (s.withClock x).folio = s.folio := rfl
@[simp] theorem State.withClock_hold (s : State) (x : Clock) : (s.withClock x).hold = s.hold := rfl
@[simp] theorem State.withClock_tally (s : State) (x : Clock) : (s.withClock x).tally = s.tally := rfl
@[simp] theorem State.withClock_mode (s : State) (x : Clock) : (s.withClock x).mode = s.mode := rfl
@[simp] theorem State.withClock_clock (s : State) (x : Clock) : (s.withClock x).clock = x := rfl
@[simp] theorem State.withClock_field (s : State) (x : Clock) : (s.withClock x).field = s.field := rfl
@[simp] theorem State.withClock_link (s : State) (x : Clock) : (s.withClock x).link = s.link := rfl
@[simp] theorem State.withClock_notice (s : State) (x : Clock) : (s.withClock x).notice = s.notice := rfl
@[simp] theorem State.withClock_draws (s : State) (x : Clock) : (s.withClock x).draws = s.draws := rfl
@[simp] theorem State.withClock_pending (s : State) (x : Clock) : (s.withClock x).pending = s.pending := rfl

@[simp] theorem State.withField_store (s : State) (x : FieldUnit) : (s.withField x).store = s.store := rfl
@[simp] theorem State.withField_cards (s : State) (x : FieldUnit) : (s.withField x).cards = s.cards := rfl
@[simp] theorem State.withField_roster (s : State) (x : FieldUnit) : (s.withField x).roster = s.roster := rfl
@[simp] theorem State.withField_cabin (s : State) (x : FieldUnit) : (s.withField x).cabin = s.cabin := rfl
@[simp] theorem State.withField_folio (s : State) (x : FieldUnit) : (s.withField x).folio = s.folio := rfl
@[simp] theorem State.withField_hold (s : State) (x : FieldUnit) : (s.withField x).hold = s.hold := rfl
@[simp] theorem State.withField_tally (s : State) (x : FieldUnit) : (s.withField x).tally = s.tally := rfl
@[simp] theorem State.withField_mode (s : State) (x : FieldUnit) : (s.withField x).mode = s.mode := rfl
@[simp] theorem State.withField_clock (s : State) (x : FieldUnit) : (s.withField x).clock = s.clock := rfl
@[simp] theorem State.withField_field (s : State) (x : FieldUnit) : (s.withField x).field = x := rfl
@[simp] theorem State.withField_link (s : State) (x : FieldUnit) : (s.withField x).link = s.link := rfl
@[simp] theorem State.withField_notice (s : State) (x : FieldUnit) : (s.withField x).notice = s.notice := rfl
@[simp] theorem State.withField_draws (s : State) (x : FieldUnit) : (s.withField x).draws = s.draws := rfl
@[simp] theorem State.withField_pending (s : State) (x : FieldUnit) : (s.withField x).pending = s.pending := rfl

@[simp] theorem State.withLink_store (s : State) (x : Link) : (s.withLink x).store = s.store := rfl
@[simp] theorem State.withLink_cards (s : State) (x : Link) : (s.withLink x).cards = s.cards := rfl
@[simp] theorem State.withLink_roster (s : State) (x : Link) : (s.withLink x).roster = s.roster := rfl
@[simp] theorem State.withLink_cabin (s : State) (x : Link) : (s.withLink x).cabin = s.cabin := rfl
@[simp] theorem State.withLink_folio (s : State) (x : Link) : (s.withLink x).folio = s.folio := rfl
@[simp] theorem State.withLink_hold (s : State) (x : Link) : (s.withLink x).hold = s.hold := rfl
@[simp] theorem State.withLink_tally (s : State) (x : Link) : (s.withLink x).tally = s.tally := rfl
@[simp] theorem State.withLink_mode (s : State) (x : Link) : (s.withLink x).mode = s.mode := rfl
@[simp] theorem State.withLink_clock (s : State) (x : Link) : (s.withLink x).clock = s.clock := rfl
@[simp] theorem State.withLink_field (s : State) (x : Link) : (s.withLink x).field = s.field := rfl
@[simp] theorem State.withLink_link (s : State) (x : Link) : (s.withLink x).link = x := rfl
@[simp] theorem State.withLink_notice (s : State) (x : Link) : (s.withLink x).notice = s.notice := rfl
@[simp] theorem State.withLink_draws (s : State) (x : Link) : (s.withLink x).draws = s.draws := rfl
@[simp] theorem State.withLink_pending (s : State) (x : Link) : (s.withLink x).pending = s.pending := rfl

@[simp] theorem State.withNotice_store (s : State) (x : NoticeUnit) : (s.withNotice x).store = s.store := rfl
@[simp] theorem State.withNotice_cards (s : State) (x : NoticeUnit) : (s.withNotice x).cards = s.cards := rfl
@[simp] theorem State.withNotice_roster (s : State) (x : NoticeUnit) : (s.withNotice x).roster = s.roster := rfl
@[simp] theorem State.withNotice_cabin (s : State) (x : NoticeUnit) : (s.withNotice x).cabin = s.cabin := rfl
@[simp] theorem State.withNotice_folio (s : State) (x : NoticeUnit) : (s.withNotice x).folio = s.folio := rfl
@[simp] theorem State.withNotice_hold (s : State) (x : NoticeUnit) : (s.withNotice x).hold = s.hold := rfl
@[simp] theorem State.withNotice_tally (s : State) (x : NoticeUnit) : (s.withNotice x).tally = s.tally := rfl
@[simp] theorem State.withNotice_mode (s : State) (x : NoticeUnit) : (s.withNotice x).mode = s.mode := rfl
@[simp] theorem State.withNotice_clock (s : State) (x : NoticeUnit) : (s.withNotice x).clock = s.clock := rfl
@[simp] theorem State.withNotice_field (s : State) (x : NoticeUnit) : (s.withNotice x).field = s.field := rfl
@[simp] theorem State.withNotice_link (s : State) (x : NoticeUnit) : (s.withNotice x).link = s.link := rfl
@[simp] theorem State.withNotice_notice (s : State) (x : NoticeUnit) : (s.withNotice x).notice = x := rfl
@[simp] theorem State.withNotice_draws (s : State) (x : NoticeUnit) : (s.withNotice x).draws = s.draws := rfl
@[simp] theorem State.withNotice_pending (s : State) (x : NoticeUnit) : (s.withNotice x).pending = s.pending := rfl

@[simp] theorem State.withPending_store (s : State) (x : List Instr) : (s.withPending x).store = s.store := rfl
@[simp] theorem State.withPending_cards (s : State) (x : List Instr) : (s.withPending x).cards = s.cards := rfl
@[simp] theorem State.withPending_roster (s : State) (x : List Instr) : (s.withPending x).roster = s.roster := rfl
@[simp] theorem State.withPending_cabin (s : State) (x : List Instr) : (s.withPending x).cabin = s.cabin := rfl
@[simp] theorem State.withPending_folio (s : State) (x : List Instr) : (s.withPending x).folio = s.folio := rfl
@[simp] theorem State.withPending_hold (s : State) (x : List Instr) : (s.withPending x).hold = s.hold := rfl
@[simp] theorem State.withPending_tally (s : State) (x : List Instr) : (s.withPending x).tally = s.tally := rfl
@[simp] theorem State.withPending_mode (s : State) (x : List Instr) : (s.withPending x).mode = s.mode := rfl
@[simp] theorem State.withPending_clock (s : State) (x : List Instr) : (s.withPending x).clock = s.clock := rfl
@[simp] theorem State.withPending_field (s : State) (x : List Instr) : (s.withPending x).field = s.field := rfl
@[simp] theorem State.withPending_link (s : State) (x : List Instr) : (s.withPending x).link = s.link := rfl
@[simp] theorem State.withPending_notice (s : State) (x : List Instr) : (s.withPending x).notice = s.notice := rfl
@[simp] theorem State.withPending_draws (s : State) (x : List Instr) : (s.withPending x).draws = s.draws := rfl
@[simp] theorem State.withPending_pending (s : State) (x : List Instr) : (s.withPending x).pending = x := rfl

@[simp] theorem State.raise_store (s : State) (n : Notice) : (s.raise n).store = s.store := rfl
@[simp] theorem State.raise_cards (s : State) (n : Notice) : (s.raise n).cards = s.cards := rfl
@[simp] theorem State.raise_roster (s : State) (n : Notice) : (s.raise n).roster = s.roster := rfl
@[simp] theorem State.raise_cabin (s : State) (n : Notice) : (s.raise n).cabin = s.cabin := rfl
@[simp] theorem State.raise_folio (s : State) (n : Notice) : (s.raise n).folio = s.folio := rfl
@[simp] theorem State.raise_hold (s : State) (n : Notice) : (s.raise n).hold = s.hold := rfl
@[simp] theorem State.raise_tally (s : State) (n : Notice) : (s.raise n).tally = s.tally := rfl
@[simp] theorem State.raise_mode (s : State) (n : Notice) : (s.raise n).mode = s.mode := rfl
@[simp] theorem State.raise_clock (s : State) (n : Notice) : (s.raise n).clock = s.clock := rfl
@[simp] theorem State.raise_field (s : State) (n : Notice) : (s.raise n).field = s.field := rfl
@[simp] theorem State.raise_link (s : State) (n : Notice) : (s.raise n).link = s.link := rfl
@[simp] theorem State.raise_notice (s : State) (n : Notice) : (s.raise n).notice = s.notice.raise n := rfl
@[simp] theorem State.raise_draws (s : State) (n : Notice) : (s.raise n).draws = s.draws := rfl
@[simp] theorem State.raise_pending (s : State) (n : Notice) : (s.raise n).pending = s.pending := rfl

@[simp] theorem State.raiseLaneFault_store (s : State) (n : Fin 4) : (s.raiseLaneFault n).store = s.store := rfl
@[simp] theorem State.raiseLaneFault_cards (s : State) (n : Fin 4) : (s.raiseLaneFault n).cards = s.cards := rfl
@[simp] theorem State.raiseLaneFault_roster (s : State) (n : Fin 4) : (s.raiseLaneFault n).roster = s.roster := rfl
@[simp] theorem State.raiseLaneFault_cabin (s : State) (n : Fin 4) : (s.raiseLaneFault n).cabin = s.cabin := rfl
@[simp] theorem State.raiseLaneFault_folio (s : State) (n : Fin 4) : (s.raiseLaneFault n).folio = s.folio := rfl
@[simp] theorem State.raiseLaneFault_hold (s : State) (n : Fin 4) : (s.raiseLaneFault n).hold = s.hold := rfl
@[simp] theorem State.raiseLaneFault_tally (s : State) (n : Fin 4) : (s.raiseLaneFault n).tally = s.tally := rfl
@[simp] theorem State.raiseLaneFault_mode (s : State) (n : Fin 4) : (s.raiseLaneFault n).mode = s.mode := rfl
@[simp] theorem State.raiseLaneFault_clock (s : State) (n : Fin 4) : (s.raiseLaneFault n).clock = s.clock := rfl
@[simp] theorem State.raiseLaneFault_field (s : State) (n : Fin 4) : (s.raiseLaneFault n).field = s.field := rfl
@[simp] theorem State.raiseLaneFault_link (s : State) (n : Fin 4) : (s.raiseLaneFault n).link = s.link := rfl
@[simp] theorem State.raiseLaneFault_draws (s : State) (n : Fin 4) : (s.raiseLaneFault n).draws = s.draws := rfl
@[simp] theorem State.raiseLaneFault_pending (s : State) (n : Fin 4) : (s.raiseLaneFault n).pending = s.pending := rfl

@[simp] theorem State.raiseAlarmLine_store (s : State) (n : Fin 4) : (s.raiseAlarmLine n).store = s.store := rfl
@[simp] theorem State.raiseAlarmLine_cards (s : State) (n : Fin 4) : (s.raiseAlarmLine n).cards = s.cards := rfl
@[simp] theorem State.raiseAlarmLine_roster (s : State) (n : Fin 4) : (s.raiseAlarmLine n).roster = s.roster := rfl
@[simp] theorem State.raiseAlarmLine_cabin (s : State) (n : Fin 4) : (s.raiseAlarmLine n).cabin = s.cabin := rfl
@[simp] theorem State.raiseAlarmLine_folio (s : State) (n : Fin 4) : (s.raiseAlarmLine n).folio = s.folio := rfl
@[simp] theorem State.raiseAlarmLine_hold (s : State) (n : Fin 4) : (s.raiseAlarmLine n).hold = s.hold := rfl
@[simp] theorem State.raiseAlarmLine_tally (s : State) (n : Fin 4) : (s.raiseAlarmLine n).tally = s.tally := rfl
@[simp] theorem State.raiseAlarmLine_mode (s : State) (n : Fin 4) : (s.raiseAlarmLine n).mode = s.mode := rfl
@[simp] theorem State.raiseAlarmLine_clock (s : State) (n : Fin 4) : (s.raiseAlarmLine n).clock = s.clock := rfl
@[simp] theorem State.raiseAlarmLine_field (s : State) (n : Fin 4) : (s.raiseAlarmLine n).field = s.field := rfl
@[simp] theorem State.raiseAlarmLine_link (s : State) (n : Fin 4) : (s.raiseAlarmLine n).link = s.link := rfl
@[simp] theorem State.raiseAlarmLine_draws (s : State) (n : Fin 4) : (s.raiseAlarmLine n).draws = s.draws := rfl
@[simp] theorem State.raiseAlarmLine_pending (s : State) (n : Fin 4) : (s.raiseAlarmLine n).pending = s.pending := rfl

@[simp] theorem State.drive_store (s : State) (b : List Byte) : (s.drive b).store = s.store := rfl
@[simp] theorem State.drive_cards (s : State) (b : List Byte) : (s.drive b).cards = s.cards := rfl
@[simp] theorem State.drive_roster (s : State) (b : List Byte) : (s.drive b).roster = s.roster := rfl
@[simp] theorem State.drive_cabin (s : State) (b : List Byte) : (s.drive b).cabin = s.cabin := rfl
@[simp] theorem State.drive_folio (s : State) (b : List Byte) : (s.drive b).folio = s.folio := rfl
@[simp] theorem State.drive_hold (s : State) (b : List Byte) : (s.drive b).hold = s.hold := rfl
@[simp] theorem State.drive_tally (s : State) (b : List Byte) : (s.drive b).tally = s.tally := rfl
@[simp] theorem State.drive_mode (s : State) (b : List Byte) : (s.drive b).mode = s.mode := rfl
@[simp] theorem State.drive_clock (s : State) (b : List Byte) : (s.drive b).clock = s.clock := rfl
@[simp] theorem State.drive_field (s : State) (b : List Byte) : (s.drive b).field = s.field := rfl
@[simp] theorem State.drive_link (s : State) (b : List Byte) : (s.drive b).link = ⟨s.link.slot, b⟩ := rfl
@[simp] theorem State.drive_notice (s : State) (b : List Byte) : (s.drive b).notice = s.notice := rfl
@[simp] theorem State.drive_draws (s : State) (b : List Byte) : (s.drive b).draws = s.draws := rfl
@[simp] theorem State.drive_pending (s : State) (b : List Byte) : (s.drive b).pending = s.pending := rfl

@[simp] theorem State.respond_store (s : State) (c : Byte) (f : HostFrame) (r : Result) (d : List Byte) :
    (s.respond c f r d).store = s.store := rfl
@[simp] theorem State.respond_cards (s : State) (c : Byte) (f : HostFrame) (r : Result) (d : List Byte) :
    (s.respond c f r d).cards = s.cards := rfl
@[simp] theorem State.respond_roster (s : State) (c : Byte) (f : HostFrame) (r : Result) (d : List Byte) :
    (s.respond c f r d).roster = s.roster := rfl
@[simp] theorem State.respond_cabin (s : State) (c : Byte) (f : HostFrame) (r : Result) (d : List Byte) :
    (s.respond c f r d).cabin = s.cabin := rfl
@[simp] theorem State.respond_folio (s : State) (c : Byte) (f : HostFrame) (r : Result) (d : List Byte) :
    (s.respond c f r d).folio = s.folio := rfl
@[simp] theorem State.respond_hold (s : State) (c : Byte) (f : HostFrame) (r : Result) (d : List Byte) :
    (s.respond c f r d).hold = s.hold := rfl
@[simp] theorem State.respond_tally (s : State) (c : Byte) (f : HostFrame) (r : Result) (d : List Byte) :
    (s.respond c f r d).tally = s.tally := rfl
@[simp] theorem State.respond_mode (s : State) (c : Byte) (f : HostFrame) (r : Result) (d : List Byte) :
    (s.respond c f r d).mode = s.mode := rfl
@[simp] theorem State.respond_clock (s : State) (c : Byte) (f : HostFrame) (r : Result) (d : List Byte) :
    (s.respond c f r d).clock = s.clock := rfl
@[simp] theorem State.respond_field (s : State) (c : Byte) (f : HostFrame) (r : Result) (d : List Byte) :
    (s.respond c f r d).field = s.field := rfl
@[simp] theorem State.respond_link (s : State) (c : Byte) (f : HostFrame) (r : Result) (d : List Byte) :
    (s.respond c f r d).link = ⟨.ready ⟨c, f.tag, r, d⟩, filler (frameBytes f)⟩ := rfl
@[simp] theorem State.respond_notice (s : State) (c : Byte) (f : HostFrame) (r : Result) (d : List Byte) :
    (s.respond c f r d).notice = s.notice.raise .commandDone := rfl
@[simp] theorem State.respond_draws (s : State) (c : Byte) (f : HostFrame) (r : Result) (d : List Byte) :
    (s.respond c f r d).draws = s.draws + 1 := rfl
@[simp] theorem State.respond_pending (s : State) (c : Byte) (f : HostFrame) (r : Result) (d : List Byte) :
    (s.respond c f r d).pending = s.pending := rfl

@[simp] theorem State.withhold_store (s : State) (c : Byte) (f : HostFrame) (d : List Byte) :
    (s.withhold c f d).store = s.store := rfl
@[simp] theorem State.withhold_cards (s : State) (c : Byte) (f : HostFrame) (d : List Byte) :
    (s.withhold c f d).cards = s.cards := rfl
@[simp] theorem State.withhold_roster (s : State) (c : Byte) (f : HostFrame) (d : List Byte) :
    (s.withhold c f d).roster = s.roster := rfl
@[simp] theorem State.withhold_cabin (s : State) (c : Byte) (f : HostFrame) (d : List Byte) :
    (s.withhold c f d).cabin = s.cabin := rfl
@[simp] theorem State.withhold_folio (s : State) (c : Byte) (f : HostFrame) (d : List Byte) :
    (s.withhold c f d).folio = s.folio := rfl
@[simp] theorem State.withhold_hold (s : State) (c : Byte) (f : HostFrame) (d : List Byte) :
    (s.withhold c f d).hold = s.hold := rfl
@[simp] theorem State.withhold_tally (s : State) (c : Byte) (f : HostFrame) (d : List Byte) :
    (s.withhold c f d).tally = s.tally := rfl
@[simp] theorem State.withhold_mode (s : State) (c : Byte) (f : HostFrame) (d : List Byte) :
    (s.withhold c f d).mode = s.mode := rfl
@[simp] theorem State.withhold_clock (s : State) (c : Byte) (f : HostFrame) (d : List Byte) :
    (s.withhold c f d).clock = s.clock := rfl
@[simp] theorem State.withhold_field (s : State) (c : Byte) (f : HostFrame) (d : List Byte) :
    (s.withhold c f d).field = s.field := rfl
@[simp] theorem State.withhold_link (s : State) (c : Byte) (f : HostFrame) (d : List Byte) :
    (s.withhold c f d).link = ⟨.scrubbing (some ⟨c, f.tag, .done, d⟩), filler (frameBytes f)⟩ := rfl
@[simp] theorem State.withhold_notice (s : State) (c : Byte) (f : HostFrame) (d : List Byte) :
    (s.withhold c f d).notice = s.notice := rfl
@[simp] theorem State.withhold_draws (s : State) (c : Byte) (f : HostFrame) (d : List Byte) :
    (s.withhold c f d).draws = s.draws + 1 := rfl
@[simp] theorem State.withhold_pending (s : State) (c : Byte) (f : HostFrame) (d : List Byte) :
    (s.withhold c f d).pending = s.pending := rfl

@[simp] theorem State.discard_store (s : State) (f : HostFrame) :
    (s.discard f).store = s.store := rfl
@[simp] theorem State.discard_cards (s : State) (f : HostFrame) :
    (s.discard f).cards = s.cards := rfl
@[simp] theorem State.discard_roster (s : State) (f : HostFrame) :
    (s.discard f).roster = s.roster := rfl
@[simp] theorem State.discard_cabin (s : State) (f : HostFrame) :
    (s.discard f).cabin = s.cabin := rfl
@[simp] theorem State.discard_folio (s : State) (f : HostFrame) :
    (s.discard f).folio = s.folio := rfl
@[simp] theorem State.discard_hold (s : State) (f : HostFrame) :
    (s.discard f).hold = s.hold := rfl
@[simp] theorem State.discard_tally (s : State) (f : HostFrame) :
    (s.discard f).tally = s.tally := rfl
@[simp] theorem State.discard_mode (s : State) (f : HostFrame) :
    (s.discard f).mode = s.mode := rfl
@[simp] theorem State.discard_clock (s : State) (f : HostFrame) :
    (s.discard f).clock = s.clock := rfl
@[simp] theorem State.discard_field (s : State) (f : HostFrame) :
    (s.discard f).field = s.field := rfl
@[simp] theorem State.discard_link (s : State) (f : HostFrame) :
    (s.discard f).link = ⟨s.link.slot, filler (frameBytes f)⟩ := rfl
@[simp] theorem State.discard_notice (s : State) (f : HostFrame) :
    (s.discard f).notice = s.notice.raise .linkOverrun := rfl
@[simp] theorem State.discard_draws (s : State) (f : HostFrame) :
    (s.discard f).draws = s.draws := rfl
@[simp] theorem State.discard_pending (s : State) (f : HostFrame) :
    (s.discard f).pending = s.pending := rfl

@[simp] theorem State.reply_store (s : State) (n : Fin 4) (r : Request) (rest : List Request) (x : Reason) (d : List Byte) :
    (s.reply n r rest x d).store = s.store := rfl
@[simp] theorem State.reply_cards (s : State) (n : Fin 4) (r : Request) (rest : List Request) (x : Reason) (d : List Byte) :
    (s.reply n r rest x d).cards = s.cards := rfl
@[simp] theorem State.reply_roster (s : State) (n : Fin 4) (r : Request) (rest : List Request) (x : Reason) (d : List Byte) :
    (s.reply n r rest x d).roster = s.roster := rfl
@[simp] theorem State.reply_cabin (s : State) (n : Fin 4) (r : Request) (rest : List Request) (x : Reason) (d : List Byte) :
    (s.reply n r rest x d).cabin = s.cabin := rfl
@[simp] theorem State.reply_folio (s : State) (n : Fin 4) (r : Request) (rest : List Request) (x : Reason) (d : List Byte) :
    (s.reply n r rest x d).folio = s.folio := rfl
@[simp] theorem State.reply_hold (s : State) (n : Fin 4) (r : Request) (rest : List Request) (x : Reason) (d : List Byte) :
    (s.reply n r rest x d).hold = s.hold := rfl
@[simp] theorem State.reply_tally (s : State) (n : Fin 4) (r : Request) (rest : List Request) (x : Reason) (d : List Byte) :
    (s.reply n r rest x d).tally = s.tally := rfl
@[simp] theorem State.reply_mode (s : State) (n : Fin 4) (r : Request) (rest : List Request) (x : Reason) (d : List Byte) :
    (s.reply n r rest x d).mode = s.mode := rfl
@[simp] theorem State.reply_clock (s : State) (n : Fin 4) (r : Request) (rest : List Request) (x : Reason) (d : List Byte) :
    (s.reply n r rest x d).clock = s.clock := rfl
@[simp] theorem State.reply_link (s : State) (n : Fin 4) (r : Request) (rest : List Request) (x : Reason) (d : List Byte) :
    (s.reply n r rest x d).link = s.link := rfl
@[simp] theorem State.reply_notice (s : State) (n : Fin 4) (r : Request) (rest : List Request) (x : Reason) (d : List Byte) :
    (s.reply n r rest x d).notice = s.notice := rfl
@[simp] theorem State.reply_draws (s : State) (n : Fin 4) (r : Request) (rest : List Request) (x : Reason) (d : List Byte) :
    (s.reply n r rest x d).draws = s.draws := rfl
@[simp] theorem State.reply_pending (s : State) (n : Fin 4) (r : Request) (rest : List Request) (x : Reason) (d : List Byte) :
    (s.reply n r rest x d).pending = s.pending := rfl

@[simp] theorem State.putGuest_store (s : State) (k : Nat) (g : Guest) : (s.putGuest k g).store = s.store := rfl
@[simp] theorem State.putGuest_cards (s : State) (k : Nat) (g : Guest) : (s.putGuest k g).cards = s.cards := rfl
@[simp] theorem State.putGuest_roster (s : State) (k : Nat) (g : Guest) : (s.putGuest k g).roster = ⟨Table.put s.roster.guests k g, s.roster.enrolled⟩ := rfl
@[simp] theorem State.putGuest_cabin (s : State) (k : Nat) (g : Guest) : (s.putGuest k g).cabin = s.cabin := rfl
@[simp] theorem State.putGuest_folio (s : State) (k : Nat) (g : Guest) : (s.putGuest k g).folio = s.folio := rfl
@[simp] theorem State.putGuest_hold (s : State) (k : Nat) (g : Guest) : (s.putGuest k g).hold = s.hold := rfl
@[simp] theorem State.putGuest_tally (s : State) (k : Nat) (g : Guest) : (s.putGuest k g).tally = s.tally := rfl
@[simp] theorem State.putGuest_mode (s : State) (k : Nat) (g : Guest) : (s.putGuest k g).mode = s.mode := rfl
@[simp] theorem State.putGuest_clock (s : State) (k : Nat) (g : Guest) : (s.putGuest k g).clock = s.clock := rfl
@[simp] theorem State.putGuest_field (s : State) (k : Nat) (g : Guest) : (s.putGuest k g).field = s.field := rfl
@[simp] theorem State.putGuest_link (s : State) (k : Nat) (g : Guest) : (s.putGuest k g).link = s.link := rfl
@[simp] theorem State.putGuest_notice (s : State) (k : Nat) (g : Guest) : (s.putGuest k g).notice = s.notice := rfl
@[simp] theorem State.putGuest_draws (s : State) (k : Nat) (g : Guest) : (s.putGuest k g).draws = s.draws := rfl
@[simp] theorem State.putGuest_pending (s : State) (k : Nat) (g : Guest) : (s.putGuest k g).pending = s.pending := rfl

@[simp] theorem State.putFolio_store (s : State) (k : Nat) (f : Folio) : (s.putFolio k f).store = s.store := rfl
@[simp] theorem State.putFolio_cards (s : State) (k : Nat) (f : Folio) : (s.putFolio k f).cards = s.cards := rfl
@[simp] theorem State.putFolio_roster (s : State) (k : Nat) (f : Folio) : (s.putFolio k f).roster = s.roster := rfl
@[simp] theorem State.putFolio_cabin (s : State) (k : Nat) (f : Folio) : (s.putFolio k f).cabin = s.cabin := rfl
@[simp] theorem State.putFolio_folio (s : State) (k : Nat) (f : Folio) : (s.putFolio k f).folio = { s.folio with folios := Table.put s.folio.folios k f } := rfl
@[simp] theorem State.putFolio_hold (s : State) (k : Nat) (f : Folio) : (s.putFolio k f).hold = s.hold := rfl
@[simp] theorem State.putFolio_tally (s : State) (k : Nat) (f : Folio) : (s.putFolio k f).tally = s.tally := rfl
@[simp] theorem State.putFolio_mode (s : State) (k : Nat) (f : Folio) : (s.putFolio k f).mode = s.mode := rfl
@[simp] theorem State.putFolio_clock (s : State) (k : Nat) (f : Folio) : (s.putFolio k f).clock = s.clock := rfl
@[simp] theorem State.putFolio_field (s : State) (k : Nat) (f : Folio) : (s.putFolio k f).field = s.field := rfl
@[simp] theorem State.putFolio_link (s : State) (k : Nat) (f : Folio) : (s.putFolio k f).link = s.link := rfl
@[simp] theorem State.putFolio_notice (s : State) (k : Nat) (f : Folio) : (s.putFolio k f).notice = s.notice := rfl
@[simp] theorem State.putFolio_draws (s : State) (k : Nat) (f : Folio) : (s.putFolio k f).draws = s.draws := rfl
@[simp] theorem State.putFolio_pending (s : State) (k : Nat) (f : Folio) : (s.putFolio k f).pending = s.pending := rfl

@[simp] theorem State.freeFolio_store (s : State) (k : Nat) : (s.freeFolio k).store = s.store := rfl
@[simp] theorem State.freeFolio_cards (s : State) (k : Nat) : (s.freeFolio k).cards = s.cards := rfl
@[simp] theorem State.freeFolio_roster (s : State) (k : Nat) : (s.freeFolio k).roster = s.roster := rfl
@[simp] theorem State.freeFolio_cabin (s : State) (k : Nat) : (s.freeFolio k).cabin = s.cabin := rfl
@[simp] theorem State.freeFolio_folio (s : State) (k : Nat) : (s.freeFolio k).folio = { s.folio with folios := Table.erase s.folio.folios k } := rfl
@[simp] theorem State.freeFolio_hold (s : State) (k : Nat) : (s.freeFolio k).hold = s.hold := rfl
@[simp] theorem State.freeFolio_tally (s : State) (k : Nat) : (s.freeFolio k).tally = s.tally := rfl
@[simp] theorem State.freeFolio_mode (s : State) (k : Nat) : (s.freeFolio k).mode = s.mode := rfl
@[simp] theorem State.freeFolio_clock (s : State) (k : Nat) : (s.freeFolio k).clock = s.clock := rfl
@[simp] theorem State.freeFolio_field (s : State) (k : Nat) : (s.freeFolio k).field = s.field := rfl
@[simp] theorem State.freeFolio_link (s : State) (k : Nat) : (s.freeFolio k).link = s.link := rfl
@[simp] theorem State.freeFolio_notice (s : State) (k : Nat) : (s.freeFolio k).notice = s.notice := rfl
@[simp] theorem State.freeFolio_draws (s : State) (k : Nat) : (s.freeFolio k).draws = s.draws := rfl
@[simp] theorem State.freeFolio_pending (s : State) (k : Nat) : (s.freeFolio k).pending = s.pending := rfl

@[simp] theorem State.putCabin_store (s : State) (k : Nat) (c : Cabin) : (s.putCabin k c).store = s.store := rfl
@[simp] theorem State.putCabin_cards (s : State) (k : Nat) (c : Cabin) : (s.putCabin k c).cards = s.cards := rfl
@[simp] theorem State.putCabin_roster (s : State) (k : Nat) (c : Cabin) : (s.putCabin k c).roster = s.roster := rfl
@[simp] theorem State.putCabin_cabin (s : State) (k : Nat) (c : Cabin) : (s.putCabin k c).cabin = { s.cabin with cabins := Table.putD s.cabin.cabins k c Cabin.empty } := rfl
@[simp] theorem State.putCabin_folio (s : State) (k : Nat) (c : Cabin) : (s.putCabin k c).folio = s.folio := rfl
@[simp] theorem State.putCabin_hold (s : State) (k : Nat) (c : Cabin) : (s.putCabin k c).hold = s.hold := rfl
@[simp] theorem State.putCabin_tally (s : State) (k : Nat) (c : Cabin) : (s.putCabin k c).tally = s.tally := rfl
@[simp] theorem State.putCabin_mode (s : State) (k : Nat) (c : Cabin) : (s.putCabin k c).mode = s.mode := rfl
@[simp] theorem State.putCabin_clock (s : State) (k : Nat) (c : Cabin) : (s.putCabin k c).clock = s.clock := rfl
@[simp] theorem State.putCabin_field (s : State) (k : Nat) (c : Cabin) : (s.putCabin k c).field = s.field := rfl
@[simp] theorem State.putCabin_link (s : State) (k : Nat) (c : Cabin) : (s.putCabin k c).link = s.link := rfl
@[simp] theorem State.putCabin_notice (s : State) (k : Nat) (c : Cabin) : (s.putCabin k c).notice = s.notice := rfl
@[simp] theorem State.putCabin_draws (s : State) (k : Nat) (c : Cabin) : (s.putCabin k c).draws = s.draws := rfl
@[simp] theorem State.putCabin_pending (s : State) (k : Nat) (c : Cabin) : (s.putCabin k c).pending = s.pending := rfl

@[simp] theorem State.putOutlet_store (s : State) (k : Nat) (x : Outlet) : (s.putOutlet k x).store = s.store := rfl
@[simp] theorem State.putOutlet_cards (s : State) (k : Nat) (x : Outlet) : (s.putOutlet k x).cards = s.cards := rfl
@[simp] theorem State.putOutlet_roster (s : State) (k : Nat) (x : Outlet) : (s.putOutlet k x).roster = s.roster := rfl
@[simp] theorem State.putOutlet_cabin (s : State) (k : Nat) (x : Outlet) : (s.putOutlet k x).cabin = s.cabin := rfl
@[simp] theorem State.putOutlet_folio (s : State) (k : Nat) (x : Outlet) : (s.putOutlet k x).folio = { s.folio with outlets := Table.putD s.folio.outlets k x Outlet.cold } := rfl
@[simp] theorem State.putOutlet_hold (s : State) (k : Nat) (x : Outlet) : (s.putOutlet k x).hold = s.hold := rfl
@[simp] theorem State.putOutlet_tally (s : State) (k : Nat) (x : Outlet) : (s.putOutlet k x).tally = s.tally := rfl
@[simp] theorem State.putOutlet_mode (s : State) (k : Nat) (x : Outlet) : (s.putOutlet k x).mode = s.mode := rfl
@[simp] theorem State.putOutlet_clock (s : State) (k : Nat) (x : Outlet) : (s.putOutlet k x).clock = s.clock := rfl
@[simp] theorem State.putOutlet_field (s : State) (k : Nat) (x : Outlet) : (s.putOutlet k x).field = s.field := rfl
@[simp] theorem State.putOutlet_link (s : State) (k : Nat) (x : Outlet) : (s.putOutlet k x).link = s.link := rfl
@[simp] theorem State.putOutlet_notice (s : State) (k : Nat) (x : Outlet) : (s.putOutlet k x).notice = s.notice := rfl
@[simp] theorem State.putOutlet_draws (s : State) (k : Nat) (x : Outlet) : (s.putOutlet k x).draws = s.draws := rfl
@[simp] theorem State.putOutlet_pending (s : State) (k : Nat) (x : Outlet) : (s.putOutlet k x).pending = s.pending := rfl

@[simp] theorem State.putHold_store (s : State) (k : Nat) (h : HoldSlot) : (s.putHold k h).store = s.store := rfl
@[simp] theorem State.putHold_cards (s : State) (k : Nat) (h : HoldSlot) : (s.putHold k h).cards = s.cards := rfl
@[simp] theorem State.putHold_roster (s : State) (k : Nat) (h : HoldSlot) : (s.putHold k h).roster = s.roster := rfl
@[simp] theorem State.putHold_cabin (s : State) (k : Nat) (h : HoldSlot) : (s.putHold k h).cabin = s.cabin := rfl
@[simp] theorem State.putHold_folio (s : State) (k : Nat) (h : HoldSlot) : (s.putHold k h).folio = s.folio := rfl
@[simp] theorem State.putHold_hold (s : State) (k : Nat) (h : HoldSlot) : (s.putHold k h).hold = { s.hold with slots := Table.putD s.hold.slots k h HoldSlot.cold } := rfl
@[simp] theorem State.putHold_tally (s : State) (k : Nat) (h : HoldSlot) : (s.putHold k h).tally = s.tally := rfl
@[simp] theorem State.putHold_mode (s : State) (k : Nat) (h : HoldSlot) : (s.putHold k h).mode = s.mode := rfl
@[simp] theorem State.putHold_clock (s : State) (k : Nat) (h : HoldSlot) : (s.putHold k h).clock = s.clock := rfl
@[simp] theorem State.putHold_field (s : State) (k : Nat) (h : HoldSlot) : (s.putHold k h).field = s.field := rfl
@[simp] theorem State.putHold_link (s : State) (k : Nat) (h : HoldSlot) : (s.putHold k h).link = s.link := rfl
@[simp] theorem State.putHold_notice (s : State) (k : Nat) (h : HoldSlot) : (s.putHold k h).notice = s.notice := rfl
@[simp] theorem State.putHold_draws (s : State) (k : Nat) (h : HoldSlot) : (s.putHold k h).draws = s.draws := rfl
@[simp] theorem State.putHold_pending (s : State) (k : Nat) (h : HoldSlot) : (s.putHold k h).pending = s.pending := rfl

@[simp] theorem State.putCard_store (s : State) (k : Nat) (c : Card) : (s.putCard k c).store = s.store := rfl
@[simp] theorem State.putCard_cards (s : State) (k : Nat) (c : Card) : (s.putCard k c).cards = { s.cards with slots := Table.put s.cards.slots k (.inUse c) } := rfl
@[simp] theorem State.putCard_roster (s : State) (k : Nat) (c : Card) : (s.putCard k c).roster = s.roster := rfl
@[simp] theorem State.putCard_cabin (s : State) (k : Nat) (c : Card) : (s.putCard k c).cabin = s.cabin := rfl
@[simp] theorem State.putCard_folio (s : State) (k : Nat) (c : Card) : (s.putCard k c).folio = s.folio := rfl
@[simp] theorem State.putCard_hold (s : State) (k : Nat) (c : Card) : (s.putCard k c).hold = s.hold := rfl
@[simp] theorem State.putCard_tally (s : State) (k : Nat) (c : Card) : (s.putCard k c).tally = s.tally := rfl
@[simp] theorem State.putCard_mode (s : State) (k : Nat) (c : Card) : (s.putCard k c).mode = s.mode := rfl
@[simp] theorem State.putCard_clock (s : State) (k : Nat) (c : Card) : (s.putCard k c).clock = s.clock := rfl
@[simp] theorem State.putCard_field (s : State) (k : Nat) (c : Card) : (s.putCard k c).field = s.field := rfl
@[simp] theorem State.putCard_link (s : State) (k : Nat) (c : Card) : (s.putCard k c).link = s.link := rfl
@[simp] theorem State.putCard_notice (s : State) (k : Nat) (c : Card) : (s.putCard k c).notice = s.notice := rfl
@[simp] theorem State.putCard_draws (s : State) (k : Nat) (c : Card) : (s.putCard k c).draws = s.draws := rfl
@[simp] theorem State.putCard_pending (s : State) (k : Nat) (c : Card) : (s.putCard k c).pending = s.pending := rfl

@[simp] theorem State.putLane_store (s : State) (n : Fin 4) (l : Lane) : (s.putLane n l).store = s.store := rfl
@[simp] theorem State.putLane_cards (s : State) (n : Fin 4) (l : Lane) : (s.putLane n l).cards = s.cards := rfl
@[simp] theorem State.putLane_roster (s : State) (n : Fin 4) (l : Lane) : (s.putLane n l).roster = s.roster := rfl
@[simp] theorem State.putLane_cabin (s : State) (n : Fin 4) (l : Lane) : (s.putLane n l).cabin = s.cabin := rfl
@[simp] theorem State.putLane_folio (s : State) (n : Fin 4) (l : Lane) : (s.putLane n l).folio = s.folio := rfl
@[simp] theorem State.putLane_hold (s : State) (n : Fin 4) (l : Lane) : (s.putLane n l).hold = s.hold := rfl
@[simp] theorem State.putLane_tally (s : State) (n : Fin 4) (l : Lane) : (s.putLane n l).tally = s.tally := rfl
@[simp] theorem State.putLane_mode (s : State) (n : Fin 4) (l : Lane) : (s.putLane n l).mode = s.mode := rfl
@[simp] theorem State.putLane_clock (s : State) (n : Fin 4) (l : Lane) : (s.putLane n l).clock = s.clock := rfl
@[simp] theorem State.putLane_field (s : State) (n : Fin 4) (l : Lane) : (s.putLane n l).field = { s.field with lanes := putCell s.field.lanes n l } := rfl
@[simp] theorem State.putLane_link (s : State) (n : Fin 4) (l : Lane) : (s.putLane n l).link = s.link := rfl
@[simp] theorem State.putLane_notice (s : State) (n : Fin 4) (l : Lane) : (s.putLane n l).notice = s.notice := rfl
@[simp] theorem State.putLane_draws (s : State) (n : Fin 4) (l : Lane) : (s.putLane n l).draws = s.draws := rfl
@[simp] theorem State.putLane_pending (s : State) (n : Fin 4) (l : Lane) : (s.putLane n l).pending = s.pending := rfl

@[simp] theorem State.putInput_store (s : State) (n : Fin 4) (x : AlarmInput) : (s.putInput n x).store = s.store := rfl
@[simp] theorem State.putInput_cards (s : State) (n : Fin 4) (x : AlarmInput) : (s.putInput n x).cards = s.cards := rfl
@[simp] theorem State.putInput_roster (s : State) (n : Fin 4) (x : AlarmInput) : (s.putInput n x).roster = s.roster := rfl
@[simp] theorem State.putInput_cabin (s : State) (n : Fin 4) (x : AlarmInput) : (s.putInput n x).cabin = s.cabin := rfl
@[simp] theorem State.putInput_folio (s : State) (n : Fin 4) (x : AlarmInput) : (s.putInput n x).folio = s.folio := rfl
@[simp] theorem State.putInput_hold (s : State) (n : Fin 4) (x : AlarmInput) : (s.putInput n x).hold = s.hold := rfl
@[simp] theorem State.putInput_tally (s : State) (n : Fin 4) (x : AlarmInput) : (s.putInput n x).tally = s.tally := rfl
@[simp] theorem State.putInput_mode (s : State) (n : Fin 4) (x : AlarmInput) : (s.putInput n x).mode = { s.mode with inputs := putCell s.mode.inputs n x } := rfl
@[simp] theorem State.putInput_clock (s : State) (n : Fin 4) (x : AlarmInput) : (s.putInput n x).clock = s.clock := rfl
@[simp] theorem State.putInput_field (s : State) (n : Fin 4) (x : AlarmInput) : (s.putInput n x).field = s.field := rfl
@[simp] theorem State.putInput_link (s : State) (n : Fin 4) (x : AlarmInput) : (s.putInput n x).link = s.link := rfl
@[simp] theorem State.putInput_notice (s : State) (n : Fin 4) (x : AlarmInput) : (s.putInput n x).notice = s.notice := rfl
@[simp] theorem State.putInput_draws (s : State) (n : Fin 4) (x : AlarmInput) : (s.putInput n x).draws = s.draws := rfl
@[simp] theorem State.putInput_pending (s : State) (n : Fin 4) (x : AlarmInput) : (s.putInput n x).pending = s.pending := rfl

@[simp] theorem State.putWatch_store (s : State) (n : Fin 2) (w : Watch) : (s.putWatch n w).store = s.store := rfl
@[simp] theorem State.putWatch_cards (s : State) (n : Fin 2) (w : Watch) : (s.putWatch n w).cards = s.cards := rfl
@[simp] theorem State.putWatch_roster (s : State) (n : Fin 2) (w : Watch) : (s.putWatch n w).roster = s.roster := rfl
@[simp] theorem State.putWatch_cabin (s : State) (n : Fin 2) (w : Watch) : (s.putWatch n w).cabin = s.cabin := rfl
@[simp] theorem State.putWatch_folio (s : State) (n : Fin 2) (w : Watch) : (s.putWatch n w).folio = s.folio := rfl
@[simp] theorem State.putWatch_hold (s : State) (n : Fin 2) (w : Watch) : (s.putWatch n w).hold = s.hold := rfl
@[simp] theorem State.putWatch_tally (s : State) (n : Fin 2) (w : Watch) : (s.putWatch n w).tally = { s.tally with watches := putCell s.tally.watches n w } := rfl
@[simp] theorem State.putWatch_mode (s : State) (n : Fin 2) (w : Watch) : (s.putWatch n w).mode = s.mode := rfl
@[simp] theorem State.putWatch_clock (s : State) (n : Fin 2) (w : Watch) : (s.putWatch n w).clock = s.clock := rfl
@[simp] theorem State.putWatch_field (s : State) (n : Fin 2) (w : Watch) : (s.putWatch n w).field = s.field := rfl
@[simp] theorem State.putWatch_link (s : State) (n : Fin 2) (w : Watch) : (s.putWatch n w).link = s.link := rfl
@[simp] theorem State.putWatch_notice (s : State) (n : Fin 2) (w : Watch) : (s.putWatch n w).notice = s.notice := rfl
@[simp] theorem State.putWatch_draws (s : State) (n : Fin 2) (w : Watch) : (s.putWatch n w).draws = s.draws := rfl
@[simp] theorem State.putWatch_pending (s : State) (n : Fin 2) (w : Watch) : (s.putWatch n w).pending = s.pending := rfl

@[simp] theorem State.putOverride_store (s : State) (n : Fin 8) (x : Option Override) : (s.putOverride n x).store = s.store := rfl
@[simp] theorem State.putOverride_cards (s : State) (n : Fin 8) (x : Option Override) : (s.putOverride n x).cards = s.cards := rfl
@[simp] theorem State.putOverride_roster (s : State) (n : Fin 8) (x : Option Override) : (s.putOverride n x).roster = s.roster := rfl
@[simp] theorem State.putOverride_cabin (s : State) (n : Fin 8) (x : Option Override) : (s.putOverride n x).cabin = { s.cabin with overrides := putCell s.cabin.overrides n x } := rfl
@[simp] theorem State.putOverride_folio (s : State) (n : Fin 8) (x : Option Override) : (s.putOverride n x).folio = s.folio := rfl
@[simp] theorem State.putOverride_hold (s : State) (n : Fin 8) (x : Option Override) : (s.putOverride n x).hold = s.hold := rfl
@[simp] theorem State.putOverride_tally (s : State) (n : Fin 8) (x : Option Override) : (s.putOverride n x).tally = s.tally := rfl
@[simp] theorem State.putOverride_mode (s : State) (n : Fin 8) (x : Option Override) : (s.putOverride n x).mode = s.mode := rfl
@[simp] theorem State.putOverride_clock (s : State) (n : Fin 8) (x : Option Override) : (s.putOverride n x).clock = s.clock := rfl
@[simp] theorem State.putOverride_field (s : State) (n : Fin 8) (x : Option Override) : (s.putOverride n x).field = s.field := rfl
@[simp] theorem State.putOverride_link (s : State) (n : Fin 8) (x : Option Override) : (s.putOverride n x).link = s.link := rfl
@[simp] theorem State.putOverride_notice (s : State) (n : Fin 8) (x : Option Override) : (s.putOverride n x).notice = s.notice := rfl
@[simp] theorem State.putOverride_draws (s : State) (n : Fin 8) (x : Option Override) : (s.putOverride n x).draws = s.draws := rfl
@[simp] theorem State.putOverride_pending (s : State) (n : Fin 8) (x : Option Override) : (s.putOverride n x).pending = s.pending := rfl

@[simp] theorem State.setReceiver_eq (s : State) (n : Fin 4) (b : List Byte) :
    s.setReceiver n b = s.putLane n { s.laneAt n with receiver := b } := rfl

/-! ### Vectors -/

@[simp] theorem cell_putCell_self {α : Type} {n : Nat} (v : Vector α n) (i : Fin n) (a : α) :
    cell (putCell v i a) i = a := by
  simp [cell, putCell]

theorem cell_putCell_ne {α : Type} {n : Nat} (v : Vector α n) {i j : Fin n} (h : i ≠ j) (a : α) :
    cell (putCell v i a) j = cell v j := by
  have : i.val ≠ j.val := fun e => h (Fin.ext e)
  simp [cell, putCell, this]

@[simp] theorem cell_replicate {α : Type} {n : Nat} (i : Fin n) (a : α) : cell (Vector.replicate n a) i = a := by
  simp [cell]

@[simp] theorem putCell_putCell {α : Type} {n : Nat} (v : Vector α n) (i : Fin n) (a b : α) :
    putCell (putCell v i a) i b = putCell v i b := by
  ext j hj
  by_cases h : i.val = j <;> simp [putCell, h]

@[simp] theorem State.laneAt_putLane_self (s : State) (n : Fin 4) (l : Lane) : (s.putLane n l).laneAt n = l := by
  simp [State.laneAt]

theorem State.laneAt_putLane_ne (s : State) {m n : Fin 4} (h : m ≠ n) (l : Lane) :
    (s.putLane m l).laneAt n = s.laneAt n := by
  simp [State.laneAt, cell_putCell_ne _ h]

@[simp] theorem State.inputAt_putInput_self (s : State) (n : Fin 4) (x : AlarmInput) :
    (s.putInput n x).inputAt n = x := by
  simp [State.inputAt]

theorem State.inputAt_putInput_ne (s : State) {m n : Fin 4} (h : m ≠ n) (x : AlarmInput) :
    (s.putInput m x).inputAt n = s.inputAt n := by
  simp [State.inputAt, cell_putCell_ne _ h]

end Sys2Proof.Machine
end

