-- ==== Sys2Proof/Laws/Link.lean ====
section
/-! SUPPORT. What a command frame can do, said once: it is discarded, refused or carried out. -/

namespace Sys2Proof.Machine

@[simp] theorem length_filler (n : Nat) : (filler n).length = n := List.length_replicate

@[simp] theorem frameOf_payload (tag : Byte) (p : List Byte) : (frameOf tag p).payload = p := rfl
@[simp] theorem frameOf_tag (tag : Byte) (p : List Byte) : (frameOf tag p).tag = tag := rfl

/-- The header of `frameOf` gives the length of the payload, up to the longest payload of a frame. -/
theorem frameOf_length (tag : Byte) {p : List Byte} (h : p.length ≤ 120) : (frameOf tag p).length.toNat = p.length := by
  show p.length % 256 = p.length
  omega

@[simp] theorem check_ok {p : Prop} [Decidable p] {r : Result} : check p r = .ok () ↔ p := by
  unfold check; split <;> simp_all

theorem check_of {p : Prop} [Decidable p] {r : Result} (h : p) : check p r = .ok () := if_pos h

theorem check_not {p : Prop} [Decidable p] {r : Result} (h : ¬ p) : check p r = .error (r, []) := if_neg h

@[simp] theorem need_some {α : Type} (a : α) (r : Result) : need (some a) r = .ok a := rfl
@[simp] theorem need_none {α : Type} (r : Result) : need (none : Option α) r = .error (r, []) := rfl

theorem test_of {p : Prop} [Decidable p] {r : Reason} (h : p) : test p r = .ok () := if_pos h

theorem test_not {p : Prop} [Decidable p] {r : Reason} (h : ¬ p) : test p r = .error (r, []) := if_neg h

@[simp] theorem demand_some {α : Type} (a : α) (r : Reason) : demand (some a) r = .ok a := rfl
@[simp] theorem demand_none {α : Type} (r : Reason) : demand (none : Option α) r = .error (r, []) := rfl

@[simp] theorem ok_bind {ε α β : Type} (a : α) (f : α → Except ε β) : (Except.ok a >>= f) = f a := rfl
@[simp] theorem error_bind {ε α β : Type} (e : ε) (f : α → Except ε β) :
    ((Except.error e : Except ε α) >>= f) = .error e := rfl

/-- Tests 1, 3 and 4 of R167 pass. -/
theorem frameTests_ok {c : Command} {f : HostFrame} {s : State} (h1 : frameSized f)
    (h3 : f.length.toNat = c.length) (h4 : c.cls.refusal s.store.part = none) : frameTests c f s = .ok () := by
  simp [frameTests, check_of h1, check_of h3, h4]

/-- The statements' `answered`, `overrun` and `withheld` are what the link does. -/
theorem respond_eq_answered (s : State) (c : Byte) (f : HostFrame) (r : Result) (d : List Byte) :
    s.respond c f r d = s.answered c f r d := rfl

theorem discard_eq_overrun (s : State) (f : HostFrame) : s.discard f = s.overrun f := rfl

theorem withhold_eq_withheld (s : State) (c : Byte) (f : HostFrame) (d : List Byte) :
    s.withhold c f d = s.withheld c f d := rfl

/-- What a command frame can do: it is discarded at an occupied slot; otherwise its tests or its body refuse it with
nothing changed but the link, or it is carried out. -/
theorem hostCommand_cases (c : Command) (f : HostFrame) (body : List Byte → State → Verdict (State × List Byte))
    (s : State) :
    (s.link.slot ≠ .empty ∧ hostCommand c f body s = s.overrun f)
    ∨ (s.link.slot = .empty ∧ ∃ r d, (frameTests c f s >>= fun _ => body f.payload s) = .error (r, d)
      ∧ hostCommand c f body s = s.answered c.code f r d)
    ∨ (s.link.slot = .empty ∧ ∃ t d, frameTests c f s = .ok () ∧ body f.payload s = .ok (t, d)
      ∧ hostCommand c f body s = t.answered c.code f .done d) := by
  unfold hostCommand
  cases hs : s.link.slot with
  | scrubbing r => exact .inl ⟨by simp, rfl⟩
  | ready r => exact .inl ⟨by simp, rfl⟩
  | empty =>
    right
    cases ht : frameTests c f s with
    | error e => exact .inl ⟨rfl, e.1, e.2, rfl, rfl⟩
    | ok u =>
      cases hb : body f.payload s with
      | error e => exact .inl ⟨rfl, e.1, e.2, by simp, by simp; rfl⟩
      | ok x => exact .inr ⟨rfl, x.1, x.2, rfl, rfl, by simp; rfl⟩

/-- The same for CONFIGURE_STORE and END_VOYAGE, whose response is withheld when they are carried out (R168). -/
theorem scrubCommand_cases (c : Command) (f : HostFrame) (body : List Byte → State → Verdict (State × List Byte))
    (s : State) :
    (s.link.slot ≠ .empty ∧ scrubCommand c f body s = s.overrun f)
    ∨ (s.link.slot = .empty ∧ ∃ r d, (frameTests c f s >>= fun _ => body f.payload s) = .error (r, d)
      ∧ scrubCommand c f body s = s.answered c.code f r d)
    ∨ (s.link.slot = .empty ∧ ∃ t d, frameTests c f s = .ok () ∧ body f.payload s = .ok (t, d)
      ∧ scrubCommand c f body s = t.withheld c.code f d) := by
  unfold scrubCommand
  cases hs : s.link.slot with
  | scrubbing r => exact .inl ⟨by simp, rfl⟩
  | ready r => exact .inl ⟨by simp, rfl⟩
  | empty =>
    right
    cases ht : frameTests c f s with
    | error e => exact .inl ⟨rfl, e.1, e.2, rfl, rfl⟩
    | ok u =>
      cases hb : body f.payload s with
      | error e => exact .inl ⟨rfl, e.1, e.2, by simp, by simp; rfl⟩
      | ok x => exact .inr ⟨rfl, x.1, x.2, rfl, rfl, by simp; rfl⟩

/-- A frame of `frameOf` passes tests 1 and 3 of R167 when its payload has the command's length. -/
theorem frameTests_frameOf {c : Command} {tag : Byte} {p : List Byte} {s : State} (hc : c.length ≤ 120)
    (hp : p.length = c.length) (h4 : c.cls.refusal s.store.part = none) : frameTests c (frameOf tag p) s = .ok () := by
  have hl := frameOf_length tag (p := p) (by omega)
  exact frameTests_ok ⟨by omega, by rw [hl]; rfl⟩ (by omega) h4

/-- A command that passes its tests is carried out and answered DONE. -/
theorem hostCommand_done {c : Command} {tag : Byte} {p : List Byte}
    {body : List Byte → State → Verdict (State × List Byte)} {s t : State} {data : List Byte}
    (h0 : s.link.slot = .empty) (hc : c.length ≤ 120) (hp : p.length = c.length)
    (h4 : c.cls.refusal s.store.part = none) (hb : body p s = .ok (t, data)) :
    hostCommand c (frameOf tag p) body s = t.answered c.code (frameOf tag p) .done data := by
  unfold hostCommand
  rw [frameTests_frameOf hc hp h4, h0]
  show (match body p s with | .ok (t, d) => _ | .error (r, d) => _ : State) = _
  rw [hb]; rfl

/-- A command that fails one of its own tests changes nothing but the link and is answered with the result. -/
theorem hostCommand_refused {c : Command} {tag : Byte} {p : List Byte}
    {body : List Byte → State → Verdict (State × List Byte)} {s : State} {r : Result} {data : List Byte}
    (h0 : s.link.slot = .empty) (hc : c.length ≤ 120) (hp : p.length = c.length)
    (h4 : c.cls.refusal s.store.part = none) (hb : body p s = .error (r, data)) :
    hostCommand c (frameOf tag p) body s = s.answered c.code (frameOf tag p) r data := by
  unfold hostCommand
  rw [frameTests_frameOf hc hp h4, h0]
  show (match body p s with | .ok (t, d) => _ | .error (r, d) => _ : State) = _
  rw [hb]; rfl

theorem scrubCommand_done {c : Command} {tag : Byte} {p : List Byte}
    {body : List Byte → State → Verdict (State × List Byte)} {s t : State} {data : List Byte}
    (h0 : s.link.slot = .empty) (hc : c.length ≤ 120) (hp : p.length = c.length)
    (h4 : c.cls.refusal s.store.part = none) (hb : body p s = .ok (t, data)) :
    scrubCommand c (frameOf tag p) body s = t.withheld c.code (frameOf tag p) data := by
  unfold scrubCommand
  rw [frameTests_frameOf hc hp h4, h0]
  show (match body p s with | .ok (t, d) => _ | .error (r, d) => _ : State) = _
  rw [hb]; rfl

theorem scrubCommand_refused {c : Command} {tag : Byte} {p : List Byte}
    {body : List Byte → State → Verdict (State × List Byte)} {s : State} {r : Result} {data : List Byte}
    (h0 : s.link.slot = .empty) (hc : c.length ≤ 120) (hp : p.length = c.length)
    (h4 : c.cls.refusal s.store.part = none) (hb : body p s = .error (r, data)) :
    scrubCommand c (frameOf tag p) body s = s.answered c.code (frameOf tag p) r data := by
  unfold scrubCommand
  rw [frameTests_frameOf hc hp h4, h0]
  show (match body p s with | .ok (t, d) => _ | .error (r, d) => _ : State) = _
  rw [hb]; rfl

/-- The part-state test of a record command passes outside BLANK (R2). -/
theorem record_admitted {s : State} (h : s.HasRecords) : CommandClass.record.refusal s.store.part = none := by
  cases hp : s.store.part <;> simp_all [CommandClass.refusal, State.HasRecords]

/-- An operation command is admitted in every part state (R2). -/
theorem operation_admitted (p : PartState) : CommandClass.operation.refusal p = none := by cases p <;> rfl

/-- A command that passes its tests, as the statements about `exec` say it. -/
theorem next_done {c : Command} {tag : Byte} {p : List Byte}
    {body : List Byte → State → Verdict (State × List Byte)} {s t : State} {data : List Byte}
    (h0 : s.link.slot = .empty) (hc : c.length ≤ 120) (hp : p.length = c.length)
    (h4 : c.cls.refusal s.store.part = none) (hb : body p s = .ok (t, data)) :
    (.next (hostCommand c (frameOf tag p) body s) : Host.Outcome State Fault Refusal)
      = .next (t.answered c.code (frameOf tag p) .done data) :=
  congrArg Host.Outcome.next (hostCommand_done h0 hc hp h4 hb)

/-- A command that fails one of its tests, as the statements about `exec` say it. -/
theorem next_refused {c : Command} {tag : Byte} {p : List Byte}
    {body : List Byte → State → Verdict (State × List Byte)} {s : State} {r : Result} {data : List Byte}
    (h0 : s.link.slot = .empty) (hc : c.length ≤ 120) (hp : p.length = c.length)
    (h4 : c.cls.refusal s.store.part = none) (hb : body p s = .error (r, data)) :
    (.next (hostCommand c (frameOf tag p) body s) : Host.Outcome State Fault Refusal)
      = .next (s.answered c.code (frameOf tag p) r data) :=
  congrArg Host.Outcome.next (hostCommand_refused h0 hc hp h4 hb)

end Sys2Proof.Machine
end

