-- ==== Sys2Proof/Laws/Lanes.lean ====
section
/-! SUPPORT. What a dispatcher's take can do, said once: it takes a request of its kind and begins one reply, or there
is no such request and nothing changes. -/

namespace Sys2Proof.Machine

/-- The statements' `replying` is what a take leaves. -/
theorem reply_eq_replying (s : State) (n : Fin 4) (r : Request) (rest : List Request) (x : Reason) (d : List Byte) :
    s.reply n r rest x d = s.replying n r rest x d := rfl

/-- A take of the head's kind. -/
theorem takeRequest_heads {k : RequestKind} {n : Fin 4} {decide : Request → State → Decided} {s : State}
    {r : Request} {rest : List Request} (h : s.Heads n r rest) (hk : r.kind = k) :
    takeRequest k n decide s
      = (decide r s).state.replying n r rest (decide r s).reason (decide r s).data := by
  unfold takeRequest
  simp only [h.1, h.2.1, h.2.2]
  simp [hk, reply_eq_replying]

/-- A take of another kind than the head's is no take. -/
theorem takeRequest_other {k : RequestKind} {n : Fin 4} {decide : Request → State → Decided} {s : State}
    {r : Request} {rest : List Request} (h : s.Heads n r rest) (hk : r.kind ≠ k) :
    takeRequest k n decide s = s := by
  unfold takeRequest
  simp only [h.1, h.2.1, h.2.2]
  simp [hk]

/-- Everything a take can do. -/
theorem takeRequest_cases (k : RequestKind) (n : Fin 4) (decide : Request → State → Decided) (s : State) :
    takeRequest k n decide s = s
    ∨ ∃ r rest, s.Heads n r rest ∧ r.kind = k
      ∧ takeRequest k n decide s
        = (decide r s).state.replying n r rest (decide r s).reason (decide r s).data := by
  unfold takeRequest
  cases ht : (s.laneAt n).transmitter with
  | sending x => left; simp [ht]
  | idle =>
    cases hb : (s.laneAt n).busy with
    | cons b l => left; simp [ht, hb]
    | nil =>
      cases hq : (s.laneAt n).queue with
      | nil => left; simp [ht, hb, hq]
      | cons r rest =>
        by_cases hk : r.kind = k
        · exact .inr ⟨r, rest, ⟨hq, ht, hb⟩, hk, by simp [ht, hb, hq, hk, reply_eq_replying]⟩
        · left; simp [ht, hb, hq, hk]

/-- A decision that succeeds. -/
theorem decided_ok (s : State) (x : Decided) : decided s (.ok x) = x := rfl

/-- A refusal changes nothing. -/
theorem decided_error (s : State) (r : Reason) (d : List Byte) : decided s (.error (r, d)) = ⟨s, r, d⟩ := rfl

end Sys2Proof.Machine
end

