-- ==== Sys2Proof/Laws/PerInstr.lean ====
section
/-! SUPPORT. Families of lemmas, one per command. `Codes`: the code under which a host command stands is a code of the
catalogue, and the decoder reads that command from it (Section 12.3). -/

namespace Sys2Proof.Laws

/-- A command with a code and a frame is the one that the decoder reads from them. -/
def Codes.Statement (i : Instr) : Prop :=
  ∀ x ∈ i.hostFrame, x.1 ∈ commandCodes ∧ decodeCommand x.1 x.2 = i

/-- A command without a host frame meets the statement. -/
theorem codes_of_none {i : Instr} (h : i.hostFrame = none) : Codes.Statement i := by
  intro x hx
  simp [h] at hx

/-- A command whose code is `code` meets the statement when the decoder reads it from that code. -/
theorem codes_of_some {i : Instr} {code : Byte} {frame : HostFrame} (h : i.hostFrame = some (code, frame))
    (hc : code ∈ commandCodes) (hd : decodeCommand code frame = i) : Codes.Statement i := by
  intro x hx
  simp only [h, Option.mem_def, Option.some.injEq] at hx
  subst hx
  exact ⟨hc, hd⟩

theorem Codes.coldStart : Codes.Statement (.coldStart) :=
  codes_of_none rfl

theorem Codes.warmStart : Codes.Statement (.warmStart) :=
  codes_of_none rfl

theorem Codes.scrubComplete : Codes.Statement (.scrubComplete) :=
  codes_of_none rfl

theorem Codes.shortTransaction (bytes : List Byte) : Codes.Statement (.shortTransaction bytes) :=
  codes_of_none rfl

theorem Codes.unknownCommandFrame (code : Byte) (frame : HostFrame) : Codes.Statement (.unknownCommandFrame code frame) :=
  codes_of_none rfl

theorem Codes.status (readout : Readout) : Codes.Statement (.status readout) :=
  codes_of_none rfl

theorem Codes.fetch (readout : Readout) : Codes.Statement (.fetch readout) :=
  codes_of_none rfl

theorem Codes.configureStore (frame : HostFrame) : Codes.Statement (.configureStore frame) :=
  codes_of_some rfl (by decide) rfl

theorem Codes.readStore (frame : HostFrame) : Codes.Statement (.readStore frame) :=
  codes_of_some rfl (by decide) rfl

theorem Codes.lockVoyage (frame : HostFrame) : Codes.Statement (.lockVoyage frame) :=
  codes_of_some rfl (by decide) rfl

theorem Codes.endVoyage (frame : HostFrame) : Codes.Statement (.endVoyage frame) :=
  codes_of_some rfl (by decide) rfl

theorem Codes.setDeck (frame : HostFrame) : Codes.Statement (.setDeck frame) :=
  codes_of_some rfl (by decide) rfl

theorem Codes.setLaneDecks (frame : HostFrame) : Codes.Statement (.setLaneDecks frame) :=
  codes_of_some rfl (by decide) rfl

theorem Codes.issueCard (frame : HostFrame) : Codes.Statement (.issueCard frame) :=
  codes_of_some rfl (by decide) rfl

theorem Codes.reissueCard (frame : HostFrame) : Codes.Statement (.reissueCard frame) :=
  codes_of_some rfl (by decide) rfl

theorem Codes.suspendCard (frame : HostFrame) : Codes.Statement (.suspendCard frame) :=
  codes_of_some rfl (by decide) rfl

theorem Codes.restoreCard (frame : HostFrame) : Codes.Statement (.restoreCard frame) :=
  codes_of_some rfl (by decide) rfl

theorem Codes.retireCard (frame : HostFrame) : Codes.Statement (.retireCard frame) :=
  codes_of_some rfl (by decide) rfl

theorem Codes.readCard (frame : HostFrame) : Codes.Statement (.readCard frame) :=
  codes_of_some rfl (by decide) rfl

theorem Codes.enrolGuest (frame : HostFrame) : Codes.Statement (.enrolGuest frame) :=
  codes_of_some rfl (by decide) rfl

theorem Codes.amendGuest (frame : HostFrame) : Codes.Statement (.amendGuest frame) :=
  codes_of_some rfl (by decide) rfl

theorem Codes.departGuest (frame : HostFrame) : Codes.Statement (.departGuest frame) :=
  codes_of_some rfl (by decide) rfl

theorem Codes.retireGuest (frame : HostFrame) : Codes.Statement (.retireGuest frame) :=
  codes_of_some rfl (by decide) rfl

theorem Codes.lookupGuest (frame : HostFrame) : Codes.Statement (.lookupGuest frame) :=
  codes_of_some rfl (by decide) rfl

theorem Codes.readGuest (frame : HostFrame) : Codes.Statement (.readGuest frame) :=
  codes_of_some rfl (by decide) rfl

theorem Codes.findGuests (frame : HostFrame) : Codes.Statement (.findGuests frame) :=
  codes_of_some rfl (by decide) rfl

theorem Codes.setCabin (frame : HostFrame) : Codes.Statement (.setCabin frame) :=
  codes_of_some rfl (by decide) rfl

theorem Codes.setOverride (frame : HostFrame) : Codes.Statement (.setOverride frame) :=
  codes_of_some rfl (by decide) rfl

theorem Codes.clearOverride (frame : HostFrame) : Codes.Statement (.clearOverride frame) :=
  codes_of_some rfl (by decide) rfl

theorem Codes.readOverrides (frame : HostFrame) : Codes.Statement (.readOverrides frame) :=
  codes_of_some rfl (by decide) rfl

theorem Codes.readCabin (frame : HostFrame) : Codes.Statement (.readCabin frame) :=
  codes_of_some rfl (by decide) rfl

theorem Codes.openFolio (frame : HostFrame) : Codes.Statement (.openFolio frame) :=
  codes_of_some rfl (by decide) rfl

theorem Codes.amendFolio (frame : HostFrame) : Codes.Statement (.amendFolio frame) :=
  codes_of_some rfl (by decide) rfl

theorem Codes.postPayment (frame : HostFrame) : Codes.Statement (.postPayment frame) :=
  codes_of_some rfl (by decide) rfl

theorem Codes.postCharge (frame : HostFrame) : Codes.Statement (.postCharge frame) :=
  codes_of_some rfl (by decide) rfl

theorem Codes.settleFolio (frame : HostFrame) : Codes.Statement (.settleFolio frame) :=
  codes_of_some rfl (by decide) rfl

theorem Codes.readFolio (frame : HostFrame) : Codes.Statement (.readFolio frame) :=
  codes_of_some rfl (by decide) rfl

theorem Codes.setCurrency (frame : HostFrame) : Codes.Statement (.setCurrency frame) :=
  codes_of_some rfl (by decide) rfl

theorem Codes.readCurrencies (frame : HostFrame) : Codes.Statement (.readCurrencies frame) :=
  codes_of_some rfl (by decide) rfl

theorem Codes.setOutlet (frame : HostFrame) : Codes.Statement (.setOutlet frame) :=
  codes_of_some rfl (by decide) rfl

theorem Codes.readOutlet (frame : HostFrame) : Codes.Statement (.readOutlet frame) :=
  codes_of_some rfl (by decide) rfl

theorem Codes.releaseFolioHolds (frame : HostFrame) : Codes.Statement (.releaseFolioHolds frame) :=
  codes_of_some rfl (by decide) rfl

theorem Codes.readHold (frame : HostFrame) : Codes.Statement (.readHold frame) :=
  codes_of_some rfl (by decide) rfl

theorem Codes.setGangway (frame : HostFrame) : Codes.Statement (.setGangway frame) :=
  codes_of_some rfl (by decide) rfl

theorem Codes.setPresence (frame : HostFrame) : Codes.Statement (.setPresence frame) :=
  codes_of_some rfl (by decide) rfl

theorem Codes.setTallyWatch (frame : HostFrame) : Codes.Statement (.setTallyWatch frame) :=
  codes_of_some rfl (by decide) rfl

theorem Codes.setWatchGroups (frame : HostFrame) : Codes.Statement (.setWatchGroups frame) :=
  codes_of_some rfl (by decide) rfl

theorem Codes.readTallies (frame : HostFrame) : Codes.Statement (.readTallies frame) :=
  codes_of_some rfl (by decide) rfl

theorem Codes.setAlarmInput (frame : HostFrame) : Codes.Statement (.setAlarmInput frame) :=
  codes_of_some rfl (by decide) rfl

theorem Codes.startMuster (frame : HostFrame) : Codes.Statement (.startMuster frame) :=
  codes_of_some rfl (by decide) rfl

theorem Codes.setLockdown (frame : HostFrame) : Codes.Statement (.setLockdown frame) :=
  codes_of_some rfl (by decide) rfl

theorem Codes.stopCharging (frame : HostFrame) : Codes.Statement (.stopCharging frame) :=
  codes_of_some rfl (by decide) rfl

theorem Codes.endMuster (frame : HostFrame) : Codes.Statement (.endMuster frame) :=
  codes_of_some rfl (by decide) rfl

theorem Codes.clearLockdown (frame : HostFrame) : Codes.Statement (.clearLockdown frame) :=
  codes_of_some rfl (by decide) rfl

theorem Codes.resumeCharging (frame : HostFrame) : Codes.Statement (.resumeCharging frame) :=
  codes_of_some rfl (by decide) rfl

theorem Codes.setStations (frame : HostFrame) : Codes.Statement (.setStations frame) :=
  codes_of_some rfl (by decide) rfl

theorem Codes.readModes (frame : HostFrame) : Codes.Statement (.readModes frame) :=
  codes_of_some rfl (by decide) rfl

theorem Codes.setClock (frame : HostFrame) : Codes.Statement (.setClock frame) :=
  codes_of_some rfl (by decide) rfl

theorem Codes.shiftLocalTime (frame : HostFrame) : Codes.Statement (.shiftLocalTime frame) :=
  codes_of_some rfl (by decide) rfl

theorem Codes.setRolloverMinute (frame : HostFrame) : Codes.Statement (.setRolloverMinute frame) :=
  codes_of_some rfl (by decide) rfl

theorem Codes.readClock (frame : HostFrame) : Codes.Statement (.readClock frame) :=
  codes_of_some rfl (by decide) rfl

theorem Codes.haltField (frame : HostFrame) : Codes.Statement (.haltField frame) :=
  codes_of_some rfl (by decide) rfl

theorem Codes.resumeField (frame : HostFrame) : Codes.Statement (.resumeField frame) :=
  codes_of_some rfl (by decide) rfl

theorem Codes.addPost (frame : HostFrame) : Codes.Statement (.addPost frame) :=
  codes_of_some rfl (by decide) rfl

theorem Codes.removePost (frame : HostFrame) : Codes.Statement (.removePost frame) :=
  codes_of_some rfl (by decide) rfl

theorem Codes.readPosts (frame : HostFrame) : Codes.Statement (.readPosts frame) :=
  codes_of_some rfl (by decide) rfl

theorem Codes.readLanes (frame : HostFrame) : Codes.Statement (.readLanes frame) :=
  codes_of_some rfl (by decide) rfl

theorem Codes.setNotices (frame : HostFrame) : Codes.Statement (.setNotices frame) :=
  codes_of_some rfl (by decide) rfl

theorem Codes.clearNotices (frame : HostFrame) : Codes.Statement (.clearNotices frame) :=
  codes_of_some rfl (by decide) rfl

theorem Codes.readNotices (frame : HostFrame) : Codes.Statement (.readNotices frame) :=
  codes_of_some rfl (by decide) rfl

theorem Codes.requestFrame (lane : Fin 4) (bytes : List Byte) : Codes.Statement (.requestFrame lane bytes) :=
  codes_of_none rfl

theorem Codes.replyFrameComplete (lane : Fin 4) : Codes.Statement (.replyFrameComplete lane) :=
  codes_of_none rfl

theorem Codes.entry (lane : Fin 4) : Codes.Statement (.entry lane) :=
  codes_of_none rfl

theorem Codes.privacy (lane : Fin 4) : Codes.Statement (.privacy lane) :=
  codes_of_none rfl

theorem Codes.charge (lane : Fin 4) : Codes.Statement (.charge lane) :=
  codes_of_none rfl

theorem Codes.balance (lane : Fin 4) : Codes.Statement (.balance lane) :=
  codes_of_none rfl

theorem Codes.authorise (lane : Fin 4) : Codes.Statement (.authorise lane) :=
  codes_of_none rfl

theorem Codes.complete (lane : Fin 4) : Codes.Statement (.complete lane) :=
  codes_of_none rfl

theorem Codes.void (lane : Fin 4) : Codes.Statement (.void lane) :=
  codes_of_none rfl

theorem Codes.gate (lane : Fin 4) : Codes.Statement (.gate lane) :=
  codes_of_none rfl

theorem Codes.muster (lane : Fin 4) : Codes.Statement (.muster lane) :=
  codes_of_none rfl

theorem Codes.alarmLevelChange (input : Fin 4) (level : Level) : Codes.Statement (.alarmLevelChange input level) :=
  codes_of_none rfl

theorem Codes.qualifiedAssertion (input : Fin 4) : Codes.Statement (.qualifiedAssertion input) :=
  codes_of_none rfl

theorem Codes.qualifiedRelease (input : Fin 4) : Codes.Statement (.qualifiedRelease input) :=
  codes_of_none rfl

theorem Codes.secondArrival : Codes.Statement (.secondArrival) :=
  codes_of_none rfl

theorem Codes.minuteTick : Codes.Statement (.minuteTick) :=
  codes_of_none rfl

theorem Codes.holdLapse : Codes.Statement (.holdLapse) :=
  codes_of_none rfl

end Sys2Proof.Laws
end

