-- ==== Sys2Proof/Laws/Table.lean ====
section
/-! SUPPORT. The laws of the tables: what a read gives after a write, that every operation keeps the rising order of the
indices, and that the lowest free index is free and the lowest. -/

namespace Sys2Proof.Machine

variable {α : Type}

@[simp] theorem Table.find_nil (k : Nat) : Table.find ([] : Table α) k = none := rfl

theorem Table.find_put_self (t : Table α) (k : Nat) (a : α) : Table.find (Table.put t k a) k = some a := by
  induction t with
  | nil => simp [Table.put, Table.find]
  | cons e t ih =>
    obtain ⟨i, b⟩ := e
    simp only [Table.put]
    split
    · simp [Table.find]
    · split
      · simp [Table.find]
      · have : i ≠ k := fun h => ‹¬k = i› h.symm
        simp [Table.find, this, ih]

theorem Table.find_put_ne (t : Table α) {j k : Nat} (h : j ≠ k) (a : α) :
    Table.find (Table.put t k a) j = Table.find t j := by
  induction t with
  | nil => simp [Table.put, Table.find, h.symm]
  | cons e t ih =>
    obtain ⟨i, b⟩ := e
    simp only [Table.put]
    split
    · simp [Table.find, h.symm]
    · split
      · subst i
        simp [Table.find, h.symm]
      · simp [Table.find, ih]

theorem Table.find_mem {t : Table α} {k : Nat} {a : α} (h : Table.find t k = some a) : (k, a) ∈ t := by
  induction t with
  | nil => simp at h
  | cons e t ih =>
    obtain ⟨i, b⟩ := e
    simp only [Table.find] at h
    split at h
    · simp_all
    · exact List.mem_cons_of_mem _ (ih h)

theorem Table.wf_cons {i : Nat} {a : α} {t : Table α} :
    Table.wf ((i, a) :: t) ↔ (∀ e ∈ t, i < e.1) ∧ Table.wf t := by
  simp [Table.wf, List.pairwise_cons]

/-- In a table whose indices rise, the entries are what `find` finds. -/
theorem Table.mem_iff_find {t : Table α} (h : Table.wf t) (k : Nat) (a : α) :
    (k, a) ∈ t ↔ Table.find t k = some a := by
  refine ⟨fun hm => ?_, Table.find_mem⟩
  induction t with
  | nil => simp at hm
  | cons e t ih =>
    obtain ⟨i, b⟩ := e
    rw [Table.wf_cons] at h
    simp only [Table.find]
    rcases List.mem_cons.1 hm with heq | hm
    · simp [(Prod.mk.inj heq).1, (Prod.mk.inj heq).2]
    · have := h.1 _ hm
      simp [Nat.ne_of_lt this, ih h.2 hm]

theorem Table.find_eq_none {t : Table α} {k : Nat} : Table.find t k = none ↔ ∀ e ∈ t, e.1 ≠ k := by
  induction t with
  | nil => simp
  | cons e t ih =>
    obtain ⟨i, b⟩ := e
    simp only [Table.find]
    split <;> simp_all

theorem Table.mem_put {t : Table α} {k : Nat} {a : α} {e : Nat × α} (h : e ∈ Table.put t k a) :
    e = (k, a) ∨ e ∈ t := by
  induction t with
  | nil => exact .inl (by simpa [Table.put] using h)
  | cons x t ih =>
    simp only [Table.put] at h
    split at h
    · exact (List.mem_cons.1 h).imp_right id
    · split at h
      · exact (List.mem_cons.1 h).imp_right (List.mem_cons_of_mem _)
      · rcases List.mem_cons.1 h with h | h
        · exact .inr (h ▸ List.mem_cons_self)
        · exact (ih h).imp_right (List.mem_cons_of_mem _)

theorem Table.put_wf {t : Table α} (h : Table.wf t) (k : Nat) (a : α) : Table.wf (Table.put t k a) := by
  induction t with
  | nil => simp [Table.put, Table.wf]
  | cons e t ih =>
    obtain ⟨i, b⟩ := e
    have hc := Table.wf_cons.1 h
    simp only [Table.put]
    split
    · refine Table.wf_cons.2 ⟨fun e he => ?_, h⟩
      rcases List.mem_cons.1 he with he | he
      · subst he; assumption
      · have := hc.1 _ he; omega
    · split
      · subst k; exact Table.wf_cons.2 hc
      · refine Table.wf_cons.2 ⟨fun e he => ?_, ih hc.2⟩
        rcases Table.mem_put he with he | he
        · subst he; simp only; omega
        · exact hc.1 _ he

theorem Table.mem_erase {t : Table α} {k : Nat} {e : Nat × α} (h : e ∈ Table.erase t k) : e ∈ t := by
  induction t with
  | nil => simp [Table.erase] at h
  | cons x t ih =>
    obtain ⟨i, b⟩ := x
    simp only [Table.erase] at h
    split at h
    · exact List.mem_cons_of_mem _ h
    · rcases List.mem_cons.1 h with h | h
      · subst h; exact List.mem_cons_self
      · exact List.mem_cons_of_mem _ (ih h)

theorem Table.erase_wf {t : Table α} (h : Table.wf t) (k : Nat) : Table.wf (Table.erase t k) := by
  induction t with
  | nil => simp [Table.erase, Table.wf]
  | cons e t ih =>
    obtain ⟨i, b⟩ := e
    have hc := Table.wf_cons.1 h
    simp only [Table.erase]
    split
    · exact hc.2
    · exact Table.wf_cons.2 ⟨fun e he => hc.1 _ (Table.mem_erase he), ih hc.2⟩

theorem Table.find_erase_self {t : Table α} (h : Table.wf t) (k : Nat) : Table.find (Table.erase t k) k = none := by
  induction t with
  | nil => rfl
  | cons e t ih =>
    obtain ⟨i, b⟩ := e
    have hc := Table.wf_cons.1 h
    simp only [Table.erase]
    split
    · rename_i hik
      exact Table.find_eq_none.2 fun e he => by have := hc.1 _ he; omega
    · simp [Table.find, *]

theorem Table.find_erase_ne (t : Table α) {j k : Nat} (h : j ≠ k) :
    Table.find (Table.erase t k) j = Table.find t j := by
  induction t with
  | nil => rfl
  | cons e t ih =>
    obtain ⟨i, b⟩ := e
    simp only [Table.erase]
    split
    · subst i
      simp [Table.find, h.symm]
    · simp [Table.find, ih]

/-- In a table whose indices rise, a write leaves at its index the record written and no other. -/
theorem Table.mem_put_iff {t : Table α} (hw : Table.wf t) {k : Nat} {a : α} {e : Nat × α} :
    e ∈ Table.put t k a ↔ e = (k, a) ∨ e ∈ t ∧ e.1 ≠ k := by
  obtain ⟨j, b⟩ := e
  rw [Table.mem_iff_find (Table.put_wf hw k a), Table.mem_iff_find hw]
  by_cases h : j = k
  · subst h; simp [Table.find_put_self, eq_comm]
  · simp [Table.find_put_ne t h, h]

/-- In a table whose indices rise, an erasure leaves every entry but the one at its index. -/
theorem Table.mem_erase_iff {t : Table α} (hw : Table.wf t) {k : Nat} {e : Nat × α} :
    e ∈ Table.erase t k ↔ e ∈ t ∧ e.1 ≠ k := by
  obtain ⟨j, b⟩ := e
  rw [Table.mem_iff_find (Table.erase_wf hw k), Table.mem_iff_find hw]
  by_cases h : j = k
  · subst h; simp [Table.find_erase_self hw]
  · simp [Table.find_erase_ne t h, h]

/-- Replacing the record at an index that is listed changes neither the indices nor their number. -/
theorem Table.length_put_of_find {t : Table α} (hw : Table.wf t) {k : Nat} {a b : α} (h : Table.find t k = some a) :
    (Table.put t k b).length = t.length := by
  induction t with
  | nil => simp at h
  | cons e t ih =>
    obtain ⟨i, x⟩ := e
    have hc := Table.wf_cons.1 hw
    simp only [Table.find] at h
    simp only [Table.put]
    split at h
    · subst k; simp
    · have := hc.1 _ (Table.find_mem h)
      simp only at this
      have h1 : ¬ k < i := by omega
      have h2 : ¬ k = i := by omega
      simp [h1, h2, ih hc.2 h]

theorem Table.putD_wf [DecidableEq α] {t : Table α} (h : Table.wf t) (k : Nat) (a d : α) :
    Table.wf (Table.putD t k a d) := by
  unfold Table.putD
  split
  · exact Table.erase_wf h k
  · exact Table.put_wf h k a

theorem Table.findD_putD_self [DecidableEq α] {t : Table α} (h : Table.wf t) (k : Nat) (a d : α) :
    Table.findD (Table.putD t k a d) k d = a := by
  unfold Table.putD Table.findD
  split
  · simp [Table.find_erase_self h, *]
  · simp [Table.find_put_self]

theorem Table.findD_putD_ne [DecidableEq α] (t : Table α) {j k : Nat} (h : j ≠ k) (a d : α) :
    Table.findD (Table.putD t k a d) j d = Table.findD t j d := by
  unfold Table.putD Table.findD
  split
  · simp [Table.find_erase_ne t h]
  · simp [Table.find_put_ne t h]

theorem Table.mapRecords_wf {t : Table α} (h : Table.wf t) (f : α → α) : Table.wf (Table.mapRecords t f) := by
  have : (t.map (fun e => (e.1, f e.2))).map Prod.fst = t.map Prod.fst := by simp
  simpa only [Table.wf, Table.mapRecords, this] using h

theorem Table.find_mapRecords (t : Table α) (f : α → α) (k : Nat) :
    Table.find (Table.mapRecords t f) k = (Table.find t k).map f := by
  induction t with
  | nil => rfl
  | cons e t ih =>
    obtain ⟨i, b⟩ := e
    simp only [Table.mapRecords, List.map_cons, Table.find]
    split
    · simp
    · simpa [Table.mapRecords] using ih

/-- The lowest free index from `k` up: it is not listed, and every index from `k` up to it is. -/
theorem Table.lowestFree_spec {t : Table α} (hw : Table.wf t) (k : Nat) (hk : ∀ e ∈ t, k ≤ e.1) :
    Table.find t (Table.lowestFree t k) = none
      ∧ ∀ j, k ≤ j → j < Table.lowestFree t k → Table.find t j ≠ none := by
  induction t generalizing k with
  | nil => exact ⟨rfl, fun j h1 h2 => by simp [Table.lowestFree] at h2; omega⟩
  | cons e t ih =>
    obtain ⟨i, b⟩ := e
    have hc := Table.wf_cons.1 hw
    by_cases hik : i = k
    · subst hik
      have hlow : ∀ e ∈ t, i + 1 ≤ e.1 := fun e he => hc.1 e he
      obtain ⟨h1, h2⟩ := ih hc.2 (i + 1) hlow
      have hge : ∀ (u : Table α) (m : Nat), m ≤ Table.lowestFree u m := by
        intro u
        induction u with
        | nil => intro m; exact Nat.le_refl m
        | cons e u ihu =>
          intro m
          obtain ⟨l, c⟩ := e
          simp only [Table.lowestFree]
          split
          · exact Nat.le_of_succ_le (ihu (m + 1))
          · exact Nat.le_refl m
      have hgt := hge t (i + 1)
      have hne : i ≠ Table.lowestFree t (i + 1) := by omega
      refine ⟨by simp [Table.lowestFree, Table.find, hne, h1], fun j hj1 hj2 => ?_⟩
      simp only [Table.lowestFree, if_true] at hj2
      simp only [Table.find]
      split
      · simp
      · exact h2 j (by omega) hj2
    · have hlt : k < i := Nat.lt_of_le_of_ne (hk _ List.mem_cons_self) (Ne.symm hik)
      simp only [Table.lowestFree, hik, if_false]
      refine ⟨Table.find_eq_none.2 fun e he => ?_, fun j h1 h2 => by omega⟩
      have := hk e he
      rcases List.mem_cons.1 he with he | he
      · subst he; simp only; omega
      · have := hc.1 _ he; omega

end Sys2Proof.Machine
end

