-- ==== Sys2Proof/Laws/Tallies.lean ====
section
/-! SUPPORT. What the evaluations of the tally watches and of muster completion leave alone: everything but the watches,
the completion state and the notice flags. -/

namespace Sys2Proof.Machine

@[simp] theorem State.evaluateWatch_store (s : State) (b : Tally) (n : Fin 2) :
    (s.evaluateWatch b n).store = s.store := by
  unfold State.evaluateWatch; dsimp only; split <;> rfl
@[simp] theorem State.evaluateWatch_cards (s : State) (b : Tally) (n : Fin 2) :
    (s.evaluateWatch b n).cards = s.cards := by
  unfold State.evaluateWatch; dsimp only; split <;> rfl
@[simp] theorem State.evaluateWatch_roster (s : State) (b : Tally) (n : Fin 2) :
    (s.evaluateWatch b n).roster = s.roster := by
  unfold State.evaluateWatch; dsimp only; split <;> rfl
@[simp] theorem State.evaluateWatch_cabin (s : State) (b : Tally) (n : Fin 2) :
    (s.evaluateWatch b n).cabin = s.cabin := by
  unfold State.evaluateWatch; dsimp only; split <;> rfl
@[simp] theorem State.evaluateWatch_folio (s : State) (b : Tally) (n : Fin 2) :
    (s.evaluateWatch b n).folio = s.folio := by
  unfold State.evaluateWatch; dsimp only; split <;> rfl
@[simp] theorem State.evaluateWatch_hold (s : State) (b : Tally) (n : Fin 2) :
    (s.evaluateWatch b n).hold = s.hold := by
  unfold State.evaluateWatch; dsimp only; split <;> rfl
@[simp] theorem State.evaluateWatch_mode (s : State) (b : Tally) (n : Fin 2) :
    (s.evaluateWatch b n).mode = s.mode := by
  unfold State.evaluateWatch; dsimp only; split <;> rfl
@[simp] theorem State.evaluateWatch_clock (s : State) (b : Tally) (n : Fin 2) :
    (s.evaluateWatch b n).clock = s.clock := by
  unfold State.evaluateWatch; dsimp only; split <;> rfl
@[simp] theorem State.evaluateWatch_field (s : State) (b : Tally) (n : Fin 2) :
    (s.evaluateWatch b n).field = s.field := by
  unfold State.evaluateWatch; dsimp only; split <;> rfl
@[simp] theorem State.evaluateWatch_link (s : State) (b : Tally) (n : Fin 2) :
    (s.evaluateWatch b n).link = s.link := by
  unfold State.evaluateWatch; dsimp only; split <;> rfl
@[simp] theorem State.evaluateWatch_draws (s : State) (b : Tally) (n : Fin 2) :
    (s.evaluateWatch b n).draws = s.draws := by
  unfold State.evaluateWatch; dsimp only; split <;> rfl
@[simp] theorem State.evaluateWatch_pending (s : State) (b : Tally) (n : Fin 2) :
    (s.evaluateWatch b n).pending = s.pending := by
  unfold State.evaluateWatch; dsimp only; split <;> rfl
@[simp] theorem State.evaluateWatch_tally_expected (s : State) (b : Tally) (n : Fin 2) :
    (s.evaluateWatch b n).tally.expected = s.tally.expected := by
  unfold State.evaluateWatch; dsimp only; split <;> rfl
@[simp] theorem State.evaluateWatch_tally_aboard (s : State) (b : Tally) (n : Fin 2) :
    (s.evaluateWatch b n).tally.aboard = s.tally.aboard := by
  unfold State.evaluateWatch; dsimp only; split <;> rfl
@[simp] theorem State.evaluateWatch_tally_ashore (s : State) (b : Tally) (n : Fin 2) :
    (s.evaluateWatch b n).tally.ashore = s.tally.ashore := by
  unfold State.evaluateWatch; dsimp only; split <;> rfl
@[simp] theorem State.evaluateWatch_tally_departed (s : State) (b : Tally) (n : Fin 2) :
    (s.evaluateWatch b n).tally.departed = s.tally.departed := by
  unfold State.evaluateWatch; dsimp only; split <;> rfl
@[simp] theorem State.evaluateWatch_tally_aboardAt (s : State) (b : Tally) (n : Fin 2) :
    (s.evaluateWatch b n).tally.aboardAt = s.tally.aboardAt := by
  unfold State.evaluateWatch; dsimp only; split <;> rfl
@[simp] theorem State.evaluateWatch_tally_unmustered (s : State) (b : Tally) (n : Fin 2) :
    (s.evaluateWatch b n).tally.unmustered = s.tally.unmustered := by
  unfold State.evaluateWatch; dsimp only; split <;> rfl
@[simp] theorem State.evaluateWatch_tally_epoch (s : State) (b : Tally) (n : Fin 2) :
    (s.evaluateWatch b n).tally.epoch = s.tally.epoch := by
  unfold State.evaluateWatch; dsimp only; split <;> rfl
@[simp] theorem State.evaluateWatch_tally_stations (s : State) (b : Tally) (n : Fin 2) :
    (s.evaluateWatch b n).tally.stations = s.tally.stations := by
  unfold State.evaluateWatch; dsimp only; split <;> rfl
@[simp] theorem State.evaluateWatch_tally_complete (s : State) (b : Tally) (n : Fin 2) :
    (s.evaluateWatch b n).tally.complete = s.tally.complete := by
  unfold State.evaluateWatch; dsimp only; split <;> rfl
@[simp] theorem State.evaluateWatch_tally_gangways (s : State) (b : Tally) (n : Fin 2) :
    (s.evaluateWatch b n).tally.gangways = s.tally.gangways := by
  unfold State.evaluateWatch; dsimp only; split <;> rfl
@[simp] theorem State.evaluateWatch_tally_groupEnable (s : State) (b : Tally) (n : Fin 2) :
    (s.evaluateWatch b n).tally.groupEnable = s.tally.groupEnable := by
  unfold State.evaluateWatch; dsimp only; split <;> rfl
@[simp] theorem State.evaluateWatch_tally_groupPending (s : State) (b : Tally) (n : Fin 2) :
    (s.evaluateWatch b n).tally.groupPending = s.tally.groupPending := by
  unfold State.evaluateWatch; dsimp only; split <;> rfl

@[simp] theorem State.evaluateWatches_store (s : State) (b : Tally) :
    (s.evaluateWatches b).store = s.store := by
  simp [State.evaluateWatches]
@[simp] theorem State.evaluateWatches_cards (s : State) (b : Tally) :
    (s.evaluateWatches b).cards = s.cards := by
  simp [State.evaluateWatches]
@[simp] theorem State.evaluateWatches_roster (s : State) (b : Tally) :
    (s.evaluateWatches b).roster = s.roster := by
  simp [State.evaluateWatches]
@[simp] theorem State.evaluateWatches_cabin (s : State) (b : Tally) :
    (s.evaluateWatches b).cabin = s.cabin := by
  simp [State.evaluateWatches]
@[simp] theorem State.evaluateWatches_folio (s : State) (b : Tally) :
    (s.evaluateWatches b).folio = s.folio := by
  simp [State.evaluateWatches]
@[simp] theorem State.evaluateWatches_hold (s : State) (b : Tally) :
    (s.evaluateWatches b).hold = s.hold := by
  simp [State.evaluateWatches]
@[simp] theorem State.evaluateWatches_mode (s : State) (b : Tally) :
    (s.evaluateWatches b).mode = s.mode := by
  simp [State.evaluateWatches]
@[simp] theorem State.evaluateWatches_clock (s : State) (b : Tally) :
    (s.evaluateWatches b).clock = s.clock := by
  simp [State.evaluateWatches]
@[simp] theorem State.evaluateWatches_field (s : State) (b : Tally) :
    (s.evaluateWatches b).field = s.field := by
  simp [State.evaluateWatches]
@[simp] theorem State.evaluateWatches_link (s : State) (b : Tally) :
    (s.evaluateWatches b).link = s.link := by
  simp [State.evaluateWatches]
@[simp] theorem State.evaluateWatches_draws (s : State) (b : Tally) :
    (s.evaluateWatches b).draws = s.draws := by
  simp [State.evaluateWatches]
@[simp] theorem State.evaluateWatches_pending (s : State) (b : Tally) :
    (s.evaluateWatches b).pending = s.pending := by
  simp [State.evaluateWatches]
@[simp] theorem State.evaluateWatches_tally_expected (s : State) (b : Tally) :
    (s.evaluateWatches b).tally.expected = s.tally.expected := by
  simp [State.evaluateWatches]
@[simp] theorem State.evaluateWatches_tally_aboard (s : State) (b : Tally) :
    (s.evaluateWatches b).tally.aboard = s.tally.aboard := by
  simp [State.evaluateWatches]
@[simp] theorem State.evaluateWatches_tally_ashore (s : State) (b : Tally) :
    (s.evaluateWatches b).tally.ashore = s.tally.ashore := by
  simp [State.evaluateWatches]
@[simp] theorem State.evaluateWatches_tally_departed (s : State) (b : Tally) :
    (s.evaluateWatches b).tally.departed = s.tally.departed := by
  simp [State.evaluateWatches]
@[simp] theorem State.evaluateWatches_tally_aboardAt (s : State) (b : Tally) :
    (s.evaluateWatches b).tally.aboardAt = s.tally.aboardAt := by
  simp [State.evaluateWatches]
@[simp] theorem State.evaluateWatches_tally_unmustered (s : State) (b : Tally) :
    (s.evaluateWatches b).tally.unmustered = s.tally.unmustered := by
  simp [State.evaluateWatches]
@[simp] theorem State.evaluateWatches_tally_epoch (s : State) (b : Tally) :
    (s.evaluateWatches b).tally.epoch = s.tally.epoch := by
  simp [State.evaluateWatches]
@[simp] theorem State.evaluateWatches_tally_stations (s : State) (b : Tally) :
    (s.evaluateWatches b).tally.stations = s.tally.stations := by
  simp [State.evaluateWatches]
@[simp] theorem State.evaluateWatches_tally_complete (s : State) (b : Tally) :
    (s.evaluateWatches b).tally.complete = s.tally.complete := by
  simp [State.evaluateWatches]
@[simp] theorem State.evaluateWatches_tally_gangways (s : State) (b : Tally) :
    (s.evaluateWatches b).tally.gangways = s.tally.gangways := by
  simp [State.evaluateWatches]
@[simp] theorem State.evaluateWatches_tally_groupEnable (s : State) (b : Tally) :
    (s.evaluateWatches b).tally.groupEnable = s.tally.groupEnable := by
  simp [State.evaluateWatches]
@[simp] theorem State.evaluateWatches_tally_groupPending (s : State) (b : Tally) :
    (s.evaluateWatches b).tally.groupPending = s.tally.groupPending := by
  simp [State.evaluateWatches]

@[simp] theorem State.evaluateCompletion_store (s : State) :
    (s.evaluateCompletion).store = s.store := by
  unfold State.evaluateCompletion; split <;> rfl
@[simp] theorem State.evaluateCompletion_cards (s : State) :
    (s.evaluateCompletion).cards = s.cards := by
  unfold State.evaluateCompletion; split <;> rfl
@[simp] theorem State.evaluateCompletion_roster (s : State) :
    (s.evaluateCompletion).roster = s.roster := by
  unfold State.evaluateCompletion; split <;> rfl
@[simp] theorem State.evaluateCompletion_cabin (s : State) :
    (s.evaluateCompletion).cabin = s.cabin := by
  unfold State.evaluateCompletion; split <;> rfl
@[simp] theorem State.evaluateCompletion_folio (s : State) :
    (s.evaluateCompletion).folio = s.folio := by
  unfold State.evaluateCompletion; split <;> rfl
@[simp] theorem State.evaluateCompletion_hold (s : State) :
    (s.evaluateCompletion).hold = s.hold := by
  unfold State.evaluateCompletion; split <;> rfl
@[simp] theorem State.evaluateCompletion_mode (s : State) :
    (s.evaluateCompletion).mode = s.mode := by
  unfold State.evaluateCompletion; split <;> rfl
@[simp] theorem State.evaluateCompletion_clock (s : State) :
    (s.evaluateCompletion).clock = s.clock := by
  unfold State.evaluateCompletion; split <;> rfl
@[simp] theorem State.evaluateCompletion_field (s : State) :
    (s.evaluateCompletion).field = s.field := by
  unfold State.evaluateCompletion; split <;> rfl
@[simp] theorem State.evaluateCompletion_link (s : State) :
    (s.evaluateCompletion).link = s.link := by
  unfold State.evaluateCompletion; split <;> rfl
@[simp] theorem State.evaluateCompletion_draws (s : State) :
    (s.evaluateCompletion).draws = s.draws := by
  unfold State.evaluateCompletion; split <;> rfl
@[simp] theorem State.evaluateCompletion_pending (s : State) :
    (s.evaluateCompletion).pending = s.pending := by
  unfold State.evaluateCompletion; split <;> rfl
@[simp] theorem State.evaluateCompletion_tally_expected (s : State) :
    (s.evaluateCompletion).tally.expected = s.tally.expected := by
  unfold State.evaluateCompletion; split <;> rfl
@[simp] theorem State.evaluateCompletion_tally_aboard (s : State) :
    (s.evaluateCompletion).tally.aboard = s.tally.aboard := by
  unfold State.evaluateCompletion; split <;> rfl
@[simp] theorem State.evaluateCompletion_tally_ashore (s : State) :
    (s.evaluateCompletion).tally.ashore = s.tally.ashore := by
  unfold State.evaluateCompletion; split <;> rfl
@[simp] theorem State.evaluateCompletion_tally_departed (s : State) :
    (s.evaluateCompletion).tally.departed = s.tally.departed := by
  unfold State.evaluateCompletion; split <;> rfl
@[simp] theorem State.evaluateCompletion_tally_aboardAt (s : State) :
    (s.evaluateCompletion).tally.aboardAt = s.tally.aboardAt := by
  unfold State.evaluateCompletion; split <;> rfl
@[simp] theorem State.evaluateCompletion_tally_unmustered (s : State) :
    (s.evaluateCompletion).tally.unmustered = s.tally.unmustered := by
  unfold State.evaluateCompletion; split <;> rfl
@[simp] theorem State.evaluateCompletion_tally_epoch (s : State) :
    (s.evaluateCompletion).tally.epoch = s.tally.epoch := by
  unfold State.evaluateCompletion; split <;> rfl
@[simp] theorem State.evaluateCompletion_tally_stations (s : State) :
    (s.evaluateCompletion).tally.stations = s.tally.stations := by
  unfold State.evaluateCompletion; split <;> rfl
@[simp] theorem State.evaluateCompletion_tally_gangways (s : State) :
    (s.evaluateCompletion).tally.gangways = s.tally.gangways := by
  unfold State.evaluateCompletion; split <;> rfl
@[simp] theorem State.evaluateCompletion_tally_watches (s : State) :
    (s.evaluateCompletion).tally.watches = s.tally.watches := by
  unfold State.evaluateCompletion; split <;> rfl
@[simp] theorem State.evaluateCompletion_tally_groupEnable (s : State) :
    (s.evaluateCompletion).tally.groupEnable = s.tally.groupEnable := by
  unfold State.evaluateCompletion; split <;> rfl
@[simp] theorem State.evaluateCompletion_tally_groupPending (s : State) :
    (s.evaluateCompletion).tally.groupPending = s.tally.groupPending := by
  unfold State.evaluateCompletion; split <;> rfl

/-- A detail bit is set by neither evaluation. -/
theorem State.evaluateWatches_details (s : State) (b : Tally) :
    { (s.evaluateWatches b).notice with flags := s.notice.flags } = s.notice := by
  unfold State.evaluateWatches State.evaluateWatch
  dsimp only
  split <;> split <;> rfl

theorem State.evaluateCompletion_details (s : State) :
    { s.evaluateCompletion.notice with flags := s.notice.flags } = s.notice := by
  unfold State.evaluateCompletion
  split <;> rfl

end Sys2Proof.Machine
end

