-- ==== Sys2Proof/Tests/Slice0.lean ====
section
/-! SUPPORT. The tests of the model: a small ship built from the records of the manual's worked sequences, one step on it
for each command and event with the results the manual gives, the words of Section 12.3 decoded, ill-formed
commands refused, and a witness for every statement that has hypotheses. -/

namespace Sys2Proof.Tests

open Sys2Proof Sys2Proof.Machine

/-! ### A small ship -/

/-- The state after a command. -/
def ran (i : Instr) (s : State) : State :=
  match exec i s with
  | .next t => t
  | .fault _ => s
  | .refused _ => s

/-- The result and data of the response that a state holds. -/
def answerOf (s : State) : Option (Result × List Byte) :=
  match s.link.slot with
  | .ready r => some (r.result, r.data)
  | .empty => none
  | .scrubbing _ => none

/-- The reason and data of the reply that a lane is sending. -/
def replyOf (n : Fin 4) (s : State) : Option (Reason × List Byte) :=
  match (s.laneAt n).transmitter with
  | .sending r => some (r.reason, r.data)
  | .idle => none

/-- Occupants 0 and 1 of cabin 0 8 2 1 4 (Section 4.7), a child, the guest of the tab of Section 6.6, and a guest who
has departed. -/
def guests : Table Guest :=
  [(0, ⟨51001, some 253, none, .adult, true, none, 5, true, [40112], .ashore, 3, none, 14, 0, 0⟩),
    (1, ⟨51002, some 253, none, .adult, true, none, 2, false, [40113, 988], .aboard, 3, some 1899996, 14, 0, 0⟩),
    (2, ⟨51003, some 139, some 3, .child, false, none, 2, false, [], .expected, 0, none, 14, 0, 0⟩),
    (5, ⟨51005, none, some 9, .adult, true, some 5000, 5, false, [1975], .aboard, 3, none, 14, 2900, 0⟩),
    (6, ⟨51006, none, none, .adult, true, none, 0, false, [2], .departed, 0, none, 14, 0, 0⟩)]

/-- The cards of the worked placement after the issue of serial 2,962 (Section 2.2), with others. -/
def cards : Table CardSlot :=
  [(202, .inUse ⟨40113, 0, .guest 1, .active, 0, none⟩), (241, .inUse ⟨2, 0, .guest 6, .suspended, 0, none⟩),
    (272, .inUse ⟨7301, 0, .service ⟨3, 5⟩, .active, 0, none⟩), (593, .inUse ⟨40112, 0, .guest 0, .active, 0, none⟩),
    (631, .inUse ⟨1975, 2, .guest 5, .active, 10, some 19⟩),
    (632, .inUse ⟨2962, 0, .service ⟨7, 9⟩, .active, 0, none⟩),
    (633, .inUse ⟨988, 0, .guest 1, .suspended, 10, some 19⟩), (634, .retired),
    (693, .inUse ⟨90001, 255, .officer, .active, 0, none⟩)]

/-- The ship: the deck map of the worked decode, outlet 30 and currency 2 of Section 6.6, gangway 0 of Section 7.5, the
alarm input AL0 of Section 8.6. -/
def ship : State :=
  { State.reset with
    store :=
      { part := .inVoyage, scrub := none, caps := ⟨320, 64, 64, 1024⟩
        deckMap := (State.reset.store.deckMap.set 0 ⟨7, 101, 140⟩).set 1 ⟨8, 101, 150⟩
        laneDecks := #v[some ⟨7, 7⟩, some ⟨7, 8⟩, none, none] }
    cards := ⟨cards, 8, 1⟩
    roster := ⟨guests, 5⟩
    cabin :=
      { cabins := [(139, ⟨[2], false, false, none⟩), (253, ⟨[0, 1], false, false, some ⟨540, 1020⟩⟩)]
        overrides := Vector.replicate 8 none }
    folio :=
      { folios :=
          [(3, ⟨703, .closed, 1000, 0, 0, 1, []⟩), (9, ⟨709, .opened, 50000, 10000, 0, 1, []⟩)]
        currencies := (State.reset.folio.currencies.set 2 ⟨true, 10870, none⟩).set 3 ⟨false, 10000, some 11000⟩
        outlets := [(30, ⟨true, 180, some 200, 120, 150, true⟩)] }
    hold :=
      { slots :=
          [(0, ⟨.lapsed ⟨9, 5, 30, 1104, 1800000⟩, 1⟩), (1, ⟨.lapsed ⟨3, 2, 30, 500, 1700000⟩, 2⟩),
            (2, ⟨.lapsed ⟨9, 5, 31, 100, 1600000⟩, 7⟩), (3, ⟨.free, 4⟩)]
        lapsed := [2, 1, 0] }
    tally :=
      { State.reset.tally with
        expected := 1, aboard := 2, ashore := 1, departed := 1, epoch := 3, stations := 0x24
        aboardAt := (State.reset.tally.aboardAt.set 2 1).set 5 1
        gangways := State.reset.tally.gangways.set 0 ⟨.opened, 10⟩ }
    mode :=
      { State.reset.mode with
        inputs := State.reset.mode.inputs.set 0 ⟨true, .high, .muster, false, .low, none, false⟩ }
    clock := ⟨true, 1900000, 58, 600, 14, 240, 1850000, 0⟩
    field :=
      { State.reset.field with
        running := true
        posts :=
          [(0, ⟨2, 100, .till 30⟩), (1, ⟨3, 20, .gate 0 .inbound⟩), (2, ⟨3, 21, .gate 0 .outbound⟩),
            (3, ⟨2, 40, .musterReader 2⟩), (4, ⟨2, 41, .musterReader 5⟩)] } }

/-- A state with one request at the head of a lane's queue. -/
def asking (s : State) (n : Fin 4) (terminal : BitVec 10) (kind : RequestKind) (payload : List Byte) : State :=
  s.putLane n ⟨[], [⟨terminal, 9, kind, payload⟩], .idle, [], []⟩


/-- The ship in SETUP, with a larger cabin table and no guests, folios or cards. -/
def quay : State :=
  { ship with
    store := { ship.store with part := .setup, caps := ⟨512, 64, 64, 1024⟩ }
    cards := ⟨[], 0, 0⟩, roster := ⟨[], 0⟩, cabin := ⟨[], Vector.replicate 8 none⟩
    folio := { ship.folio with folios := [] }, hold := ⟨[], []⟩
    tally := { State.reset.tally with stations := 0x24 } }

/-- The ship with the tab of guest 5: AUTHORISE 1,250 in currency 2 at outlet 30 (Section 6.6, minute 200). -/
def tab : State :=
  ran (.authorise 2) (asking ship 2 100 .authorise (e32 1975 ++ e8 2 ++ e32 1250 ++ e8 2 ++ e8 1))

/-- The ship in a muster of epoch 4. -/
def alarm : State := ran (.startMuster (frameOf 1 [])) ship

/-- The tag and payload of a command frame. -/
def cmd (payload : List Byte) : HostFrame := frameOf 7 payload

/-! ### The ship keeps what every state keeps (a witness for each invariant) -/

theorem test_ship_control_sound : ship.ControlSound := by decide
theorem test_ship_tables_form : ship.TablesSorted ∧ ship.TablesCanonical ∧ ship.TablesSized ∧ ship.PostsDistinct := by
  decide
theorem test_ship_partition : ship.PartitionValid := by decide
theorem test_ship_plan : ship.store.PlanSound := by decide
theorem test_ship_tables_sound : ship.TablesSound :=
  ⟨test_ship_tables_form.1, test_ship_tables_form.2.1, test_ship_partition, test_ship_plan, test_ship_tables_form.2.2.1,
    test_ship_tables_form.2.2.2⟩
theorem test_ship_tallies_sound : ship.TalliesSound := by decide
theorem test_ship_assignments_sound : ship.AssignmentsSound := by decide
theorem test_ship_cards_sound : ship.CardsSound := by decide
theorem test_ship_rates_in_range : ship.RatesInRange := by decide
theorem test_ship_active_holds : ship.ActiveHoldsSound := by decide
theorem test_ship_folio_holds : ship.FolioHoldsExact := by decide
theorem test_ship_guest_held : ship.GuestHeldExact := by decide
theorem test_ship_lapsed : ship.LapsedExact := by decide
theorem test_ship_folios_in_range : ship.FoliosInRange := by decide

theorem test_ship_holds_sound : ship.HoldsSound :=
  ⟨test_ship_tables_sound.1, test_ship_control_sound.2.2.1, test_ship_rates_in_range, test_ship_active_holds,
    test_ship_folio_holds, test_ship_guest_held, test_ship_lapsed, test_ship_folios_in_range⟩

theorem test_ship_keys : ship.GuestsInRange ∧ ship.KeysDistinct ∧ ship.ShipCurrencyFixed := by decide

theorem test_ship_ranges_sound : ship.RangesSound :=
  ⟨test_ship_tables_form.1, test_ship_control_sound.2.2.1, test_ship_keys⟩

theorem test_ship_sound : ship.Sound :=
  ⟨test_ship_control_sound, test_ship_tables_sound, test_ship_tallies_sound, test_ship_assignments_sound,
    test_ship_cards_sound, test_ship_holds_sound, test_ship_ranges_sound⟩

/-! ### Transactions as Section 12.3 encodes them, and ill-formed commands -/

theorem test_decode_status : decodeTransaction [0x01, 0, 0, 0, 0] = .status ⟨0, 0, 2⟩ := by decide
theorem test_decode_fetch : decodeTransaction [0x02, 0, 0] = .fetch ⟨0, 0, 0⟩ := by decide
theorem test_decode_short : decodeTransaction [0x93, 7] = .shortTransaction [0x93, 7] := by decide
theorem test_decode_unknown : decodeTransaction [0x26, 7, 0] = .unknownCommandFrame 0x26 ⟨7, 0, []⟩ := by decide
theorem test_decode_store : decodeTransaction [0x12, 1, 0] = .lockVoyage ⟨1, 0, []⟩ := by decide
theorem test_decode_card : decodeTransaction [0x22, 1, 4, 0, 0, 0, 9] = .suspendCard ⟨1, 4, [0, 0, 0, 9]⟩ := by decide
theorem test_decode_guest : decodeTransaction [0x33, 1, 2, 0, 5] = .retireGuest ⟨1, 2, [0, 5]⟩ := by decide
theorem test_decode_cabin : decodeTransaction [0x42, 1, 1, 7] = .clearOverride ⟨1, 1, [7]⟩ := by decide
theorem test_decode_folio : decodeTransaction [0x54, 1, 2, 0, 9] = .settleFolio ⟨1, 2, [0, 9]⟩ := by decide
theorem test_decode_hold : decodeTransaction [0x61, 1, 1, 3] = .readHold ⟨1, 1, [3]⟩ := by decide
theorem test_decode_tally : decodeTransaction [0x75, 1, 2, 0, 0x24] = .setStations ⟨1, 2, [0, 0x24]⟩ := by decide
theorem test_decode_mode : decodeTransaction [0x82, 1, 0] = .endMuster ⟨1, 0, []⟩ := by decide
theorem test_decode_clock : decodeTransaction [0x91, 1, 2, 0xFF, 0xC4] = .shiftLocalTime ⟨1, 2, [0xFF, 0xC4]⟩ := by decide
theorem test_decode_lanes : decodeTransaction [0xA3, 1, 4, 0, 2, 0, 40] = .removePost ⟨1, 4, [0, 2, 0, 40]⟩ := by decide
theorem test_decode_notices : decodeTransaction [0xB1, 1, 2, 0, 1] = .clearNotices ⟨1, 2, [0, 1]⟩ := by decide

theorem test_ill_formed_short : (Instr.shortTransaction [1, 2, 3]).wellFormed = false := by decide
theorem test_ill_formed_code : (Instr.unknownCommandFrame 0x93 ⟨0, 0, []⟩).wellFormed = false := by decide
theorem test_ill_formed_frame : (Instr.requestFrame 0 (List.replicate 20 0xA5)).wellFormed = false := by decide

theorem test_table_word : decodeTableWord 8 0x01 = none ∧ ship.withFetchWord 8 0x01 = ship := ⟨rfl, rfl⟩

/-- The check value of R176, and the CRC of the worked frame of Section 12.3 (worked out apart from the model). -/
theorem test_crc_check_value : crc16 [0x31, 0x32, 0x33, 0x34, 0x35, 0x36, 0x37, 0x38, 0x39] = 0x29B1 := by decide +kernel

/-! ### Starts and the store controller (Chapter 1) -/

theorem test_cold_start :
    (ran .coldStart ship).store = State.reset.store ∧ (ran .coldStart ship).roster = ⟨[], 0⟩
      ∧ (ran .coldStart ship).clock = State.reset.clock ∧ (ran .coldStart ship).field.posts = [] := by decide

theorem test_warm_start :
    (ran .warmStart ship).clock = { ship.clock with running := false } ∧ (ran .warmStart ship).notice.flags = 0x1000
      ∧ (ran .warmStart ship).roster = ship.roster ∧ (ran .warmStart ship).field.running = false := by decide

/-- The first partition request of Section 1.2; the second, after it, restarts the scrub without a response (R17). -/
theorem test_configure_store :
    let t := ran (.configureStore (cmd (e16 2100 ++ e16 5400 ++ e16 2300 ++ e16 12000))) State.reset
    t.store.caps = ⟨2112, 5440, 2304, 4096⟩ ∧ t.store.part = .setup ∧ t.scrubbing = true
      ∧ t.link.slot = .scrubbing (some ⟨0x10, 7, .done, [0x08, 0x40, 0x15, 0x40, 0x09, 0, 0x10, 0]⟩)
      ∧ (ran .warmStart t).link.slot = .scrubbing none := by decide

/-- The two other requests of Section 1.2: one that fails for want of card units, one that takes the whole store. -/
theorem test_grants :
    grantAll ⟨4096, 8000, 2000, 2048⟩ = none ∧ grantAll ⟨4096, 7488, 384, 1024⟩ = some ⟨4096, 7488, 384, 1024⟩ := by
  decide

theorem test_scrub_complete :
    let t := ran .scrubComplete (ran (.configureStore (cmd (e16 0 ++ e16 0 ++ e16 0 ++ e16 0))) State.reset)
    answerOf t = some (.done, [0, 64, 0, 64, 0, 64, 4, 0]) ∧ t.scrubbing = false ∧ t.notice.flags = 1 := by decide

theorem test_read_store :
    (answerOf (ran (.readStore (cmd [])) ship)).map (fun a => a.2.take 22)
      = some [2, 0, 1, 64, 0, 64, 0, 64, 4, 0, 7, 64, 88, 192, 0, 7, 0, 101, 0, 140, 0, 0] := by decide

theorem test_lock_voyage :
    (ran (.lockVoyage (cmd [])) quay).store.part = .inVoyage
      ∧ answerOf (ran (.lockVoyage (cmd [])) State.reset) = some (.wrongState, []) := by decide

theorem test_end_voyage :
    let s := quay.withStore { quay.store with part := .inVoyage }
    (ran (.endVoyage (cmd [])) s).store = { s.store with part := .setup, scrub := some 0 }
      ∧ answerOf (ran (.endVoyage (cmd [])) ship) = some (.unsettled, []) := by decide

/-- Deck 9 in slot 2 raises the total of the worked decode to 410 (Section 1.5); deck 8 is held by slot 1. -/
theorem test_set_deck :
    (ran (.setDeck (cmd (e8 2 ++ e16 9 ++ e16 101 ++ e16 120))) quay).store.cabinCount = 410
      ∧ answerOf (ran (.setDeck (cmd (e8 2 ++ e16 8 ++ e16 101 ++ e16 120))) quay) = some (.duplicate, []) := by decide

/-- The worked decode (Section 1.5). -/
theorem test_decode_codes :
    ship.store.cabinIndex 0x08214 = some 253 ∧ ship.store.cabinIndex 0x07240 = some 139
      ∧ ship.store.cabinIndex 0x07241 = none ∧ ship.store.cabinIndex 0x08099 = none
      ∧ ship.store.cabinIndex 0x09101 = none ∧ ship.store.cabinIndex 0x082A4 = none := by decide

theorem test_set_lane_decks :
    (cell (ran (.setLaneDecks (cmd (e16 3 ++ e16 7 ++ e16 9))) quay).store.laneDecks 3) = some ⟨7, 9⟩
      ∧ answerOf (ran (.setLaneDecks (cmd (e16 3 ++ e16 7 ++ e16 9))) ship) = some (.locked, []) := by decide

/-! ### Cards (Chapter 2) -/

/-- The homes that Section 2.2 gives. -/
theorem test_home_slots :
    homeSlot 1024 1 = 632 ∧ homeSlot 4096 1 = 2531 ∧ homeSlot 16384 1 = 10125 ∧ homeSlot 1024 2 = 241
      ∧ homeSlot 4096 2 = 966 ∧ probeWindow 1024 105 = [915, 916, 917, 918, 919, 920, 921, 922] := by decide

/-- Serial 1 passes the two IN_USE slots of its window and takes the RETIRED slot 634 (R24). -/
theorem test_issue_card :
    let t := ran (.issueCard (cmd (e32 1 ++ e8 0 ++ e8 2 ++ e16 0 ++ e16 0 ++ e16 0 ++ e16 0 ++ e8 0 ++ e16 0))) ship
    answerOf t = some (.done, e16 634 ++ e16 632) ∧ t.cards.inUseCount = 9 ∧ t.cards.retiredCount = 0 := by decide

theorem test_issue_card_duplicate :
    answerOf (ran (.issueCard (cmd (e32 988 ++ e8 0 ++ e8 2 ++ e16 0 ++ e16 0 ++ e16 0 ++ e16 0 ++ e8 0 ++ e16 0)))
      ship) = some (.duplicate, []) := by decide

theorem test_reissue_card :
    answerOf (ran (.reissueCard (cmd (e32 1975))) ship) = some (.done, [3])
      ∧ answerOf (ran (.reissueCard (cmd (e32 90001))) ship) = some (.limit, []) := by decide

theorem test_suspend_card :
    ((ran (.suspendCard (cmd (e32 1975))) ship).cardAt 631).map Card.state = some .suspended := by decide

theorem test_restore_card :
    ((ran (.restoreCard (cmd (e32 988))) ship).cardAt 633).map Card.state = some .active
      ∧ answerOf (ran (.restoreCard (cmd (e32 2))) ship) = some (.wrongState, []) := by decide

theorem test_retire_card :
    let t := ran (.retireCard (cmd (e32 988))) ship
    answerOf t = some (.done, e16 633) ∧ t.cardSlotAt 633 = some .retired ∧ t.cards.retiredCount = 2
      ∧ (t.guestAt 1).map Guest.cards = some [40113] := by decide

/-- Serial 1 is not found; its window holds 2,962, 988, a RETIRED slot and five FREE ones (R32). -/
theorem test_read_card :
    answerOf (ran (.readCard (cmd (e8 1 ++ e32 1))) ship)
      = some (.notFound, e16 632 ++ [1, 1, 2, 0, 0, 0, 0, 0]) := by decide

/-- The worked resolution (Section 2.4) on day 14, and 1,975 on day 20. -/
theorem test_resolution :
    ship.resolve ⟨1975, 2⟩ = .ok ⟨631, 1975, 2, .guest 5⟩
      ∧ ship.resolve ⟨1975, 1⟩ = .error (.staleIssue, []) ∧ ship.resolve ⟨1975, 3⟩ = .error (.unknownCard, [])
      ∧ ship.resolve ⟨988, 0⟩ = .error (.cardSuspended, []) ∧ ship.resolve ⟨1, 0⟩ = .error (.unknownCard, [])
      ∧ (ship.withClock { ship.clock with day := 20 }).resolve ⟨1975, 2⟩ = .error (.cardNotValid, []) := by decide

/-! ### Guests (Chapter 3) -/

/-- A CHILD with may charge DEFAULT in cabin 0 7 2 4 0: the lowest FREE index is 3 (R40, R42). -/
theorem test_enrol_guest :
    let t := ran (.enrolGuest (cmd (e32 51010 ++ e8 1 ++ [0, 0x72, 0x40] ++ e8 0 ++ e16 0 ++ e8 2 ++ e8 2 ++ e8 0
      ++ e32 0 ++ e16 4 ++ e8 1))) ship
    answerOf t = some (.done, e16 3) ∧ (t.guestAt 3).map Guest.mayCharge = some false
      ∧ (t.cabinAt 139).occupants = [2, 3] ∧ t.tally.expected = 2 ∧ t.roster.enrolled = 6 := by decide

/-- Guest 2 moves into cabin 0 8 2 1 4 and joins the tail of its list (R45). -/
theorem test_amend_guest :
    let t := ran (.amendGuest (cmd (e16 2 ++ e8 2 ++ e32 0 ++ e8 1 ++ [0, 0x82, 0x14] ++ e8 2 ++ e16 0 ++ e8 2 ++ e8 0
      ++ e8 2 ++ e8 0 ++ e8 2 ++ e32 0 ++ e8 2 ++ e16 0 ++ e8 2 ++ e8 0))) ship
    answerOf t = some (.done, []) ∧ (t.cabinAt 253).occupants = [0, 1, 2] ∧ (t.cabinAt 139).occupants = []
      ∧ (t.guestAt 2).bind Guest.cabin = some 253 := by decide

theorem test_depart_guest :
    let t := ran (.departGuest (cmd (e16 0))) ship
    (t.guestAt 0).map Guest.presence = some .departed ∧ t.tally.ashore = 0 ∧ t.tally.departed = 2
      ∧ (t.cardAt 593).map Card.state = some .suspended
      ∧ answerOf (ran (.departGuest (cmd (e16 5))) ship) = some (.aboard, []) := by decide

/-- The last member leaves a CLOSED folio, which becomes FREE (R50, R80). -/
theorem test_retire_guest :
    let t := ran (.retireGuest (cmd (e16 2))) ship
    answerOf t = some (.done, e16 0) ∧ t.guestAt 2 = none ∧ t.folioAt 3 = none ∧ (t.cabinAt 139).occupants = []
      ∧ t.tally.expected = 0 := by decide

theorem test_lookup_guest :
    answerOf (ran (.lookupGuest (cmd (e32 51005))) ship) = some (.done, [0, 5, 1]) := by decide

theorem test_read_guest :
    (answerOf (ran (.readGuest (cmd (e16 2))) ship)).map (fun a => a.2.take 15)
      = some [0, 0, 0xC7, 0x3B, 2, 1, 0, 2, 1, 1, 0, 139, 0x00, 0x72, 0x40] := by decide

theorem test_find_guests :
    (answerOf (ran (.findGuests (cmd (e16 0 ++ e8 1 ++ e8 1 ++ e8 0 ++ e16 0 ++ e8 0 ++ [0, 0, 0] ++ e8 0 ++ e16 0)))
      ship)).map (fun a => a.2.take 7) = some [0, 2, 0, 1, 0, 5, 0] := by decide

/-! ### Cabins (Chapter 4) -/

theorem test_set_cabin :
    let t := ran (.setCabin (cmd ([0, 0x82, 0x14] ++ e8 1 ++ e8 0 ++ e8 2 ++ e16 0 ++ e16 0))) ship
    answerOf t = some (.done, e16 253 ++ [0, 2, 0, 0, 0, 1, 1, 0] ++ e8 1 ++ e16 540 ++ e16 1020)
      ∧ (t.cabinAt 253).outOfOrder = true := by decide

theorem test_set_override :
    let t := ran (.setOverride (cmd (e8 2 ++ [0, 0x82, 0x14] ++ e8 2 ++ e32 7301 ++ e8 0))) ship
    answerOf t = some (.done, e16 253)
      ∧ cell t.cabin.overrides 2 = some ⟨0x08214, 253, .admitOne 7301, true⟩ := by decide

theorem test_clear_override :
    let s := ship.putOverride 7 (some ⟨0x08214, 253, .denyAll, true⟩)
    cell (ran (.clearOverride (cmd (e8 7))) s).cabin.overrides 7 = none
      ∧ answerOf (ran (.clearOverride (cmd (e8 8))) s) = some (.range, []) := by decide

theorem test_read_overrides :
    answerOf (ran (.readOverrides (cmd [])) (ship.putOverride 1 (some ⟨0x08214, 253, .admitOne 7301, true⟩)))
      = some (.done, [0, 1, 0x00, 0x82, 0x14, 2, 0, 0, 0x1C, 0x85, 0, 0, 253, 0, 0, 0, 0, 0, 0]) := by decide

theorem test_read_cabin :
    answerOf (ran (.readCabin (cmd (e8 1 ++ [0, 0x00, 0x82, 0x14]))) ship)
      = some (.done, e16 253 ++ [0x00, 0x82, 0x14] ++ e16 8 ++ e16 214 ++ [0, 2, 0, 0, 0, 1, 1, 1]
        ++ e8 1 ++ e16 540 ++ e16 1020 ++ e16 600 ++ [1, 0]) := by decide

/-- The windows of Section 4.3. -/
theorem test_windows :
    (⟨540, 1020⟩ : Window).inside 1019 = true ∧ (⟨540, 1020⟩ : Window).inside 1020 = false
      ∧ (⟨1320, 360⟩ : Window).inside 1320 = true ∧ (⟨1320, 360⟩ : Window).inside 359 = true
      ∧ (⟨1320, 360⟩ : Window).inside 360 = false ∧ (⟨0, 0⟩ : Window).inside 1439 = true
      ∧ insideWindow none 0 = true := by decide

/-- Minute 600 of Section 4.7: the ASHORE occupant is admitted and corrected. -/
theorem test_entry :
    let t := ran (.entry 1) (asking ship 1 300 .entry ([0, 0x82, 0x14] ++ e32 40112 ++ e8 0))
    replyOf 1 t = some (.admitted, [2, 1]) ∧ (t.guestAt 0).map Guest.presence = some .aboard ∧ t.tally.ashore = 0
      ∧ cell t.tally.aboardAt 5 = 2 ∧ t.notice.flags = 0x20 := by decide

/-- Other lines of Section 4.7, and the lane check of Section 1.6. -/
theorem test_entry_refusals :
    let at' : Fin 4 → Nat → State → Option (Reason × List Byte) := fun n serial s =>
      replyOf n (ran (.entry n) (asking s n 300 .entry ([0, 0x82, 0x14] ++ e32 serial ++ e8 0)))
    at' 0 40112 ship = some (.wrongLane, []) ∧ at' 1 7301 ship = some (.denyClass, [])
      ∧ at' 1 2962 ship = some (.admitted, [3])
      ∧ at' 1 2962 (ship.withClock { ship.clock with minute := 1030 }) = some (.denyWindow, [])
      ∧ at' 1 7301 (ship.putOverride 2 (some ⟨0x08214, 253, .admitOne 7301, true⟩)) = some (.admitted, [1])
      ∧ at' 1 40113 (ship.putOverride 2 (some ⟨0x08214, 253, .admitOne 7301, true⟩)) = some (.denyOverride, []) := by
  decide

theorem test_privacy :
    let t := ran (.privacy 1) (asking ship 1 300 .privacy [0, 0x82, 0x14, 1])
    replyOf 1 t = some (.noted, [1]) ∧ (t.cabinAt 253).privacy = true
      ∧ replyOf 1 (ran (.privacy 1) (asking ship 1 300 .privacy [0, 0x82, 0x15, 1])) = some (.ignored, []) := by decide

/-! ### Folios (Chapter 5) -/

theorem test_open_folio :
    answerOf (ran (.openFolio (cmd (e32 800 ++ e32 10000001))) ship) = some (.done, e16 0 ++ e32 10000000)
      ∧ answerOf (ran (.openFolio (cmd (e32 709 ++ e32 0))) ship) = some (.duplicate, []) := by decide

theorem test_amend_folio :
    answerOf (ran (.amendFolio (cmd (e16 9 ++ e8 1 ++ e32 1000 ++ e8 1))) ship)
      = some (.done, [2] ++ e32 1000 ++ [0xFF, 0xFF, 0xDC, 0xD8])
      ∧ answerOf (ran (.amendFolio (cmd (e16 3 ++ e8 2 ++ e32 0 ++ e8 0))) ship) = some (.folioState, []) := by decide

theorem test_post_payment :
    answerOf (ran (.postPayment (cmd (e16 9 ++ e32 10001))) ship)
      = some (.done, [0xFF, 0xFF, 0xFF, 0xFF] ++ e32 50001) := by decide

theorem test_post_charge :
    answerOf (ran (.postCharge (cmd (e16 9 ++ e32 40000))) ship) = some (.done, e32 50000 ++ e32 0)
      ∧ answerOf (ran (.postCharge (cmd (e16 9 ++ e32 0))) ship) = some (.range, []) := by decide

theorem test_settle_folio :
    let paid : State := ship.putFolio 9 ⟨709, .opened, 50000, 0, 0, 1, []⟩
    answerOf (ran (.settleFolio (cmd (e16 9))) ship) = some (.balance, [])
      ∧ answerOf (ran (.settleFolio (cmd (e16 9))) paid) = some (.done, [3]) := by decide

theorem test_read_folio :
    answerOf (ran (.readFolio (cmd (e8 1 ++ e32 709))) ship)
      = some (.done, e16 9 ++ e32 709 ++ [1] ++ e32 50000 ++ e32 10000 ++ e32 0 ++ e32 40000 ++ e16 1 ++ e16 0) := by
  decide

theorem test_set_currency :
    cell (ran (.setCurrency (cmd (e8 2 ++ e8 0 ++ e8 1 ++ e32 11000 ++ e8 1))) ship).folio.currencies 2
      = ⟨true, 10870, some 11000⟩
      ∧ answerOf (ran (.setCurrency (cmd (e8 0 ++ e8 0 ++ e8 0 ++ e32 0 ++ e8 0))) ship) = some (.range, []) := by decide

theorem test_read_currencies :
    (answerOf (ran (.readCurrencies (cmd [])) ship)).map (fun a => a.2.take 6) = some ([0] ++ e32 10000 ++ [0]) := by
  decide

theorem test_set_outlet :
    (ran (.setOutlet (cmd (e16 31 ++ [1, 0] ++ [1, 255] ++ e8 1 ++ e16 0 ++ [1, 201] ++ [2, 0] ++ e8 0))) ship).outletAt 31
      = ⟨true, 250, none, 1, 200, false⟩ := by decide +kernel

theorem test_read_outlet :
    answerOf (ran (.readOutlet (cmd (e16 30))) ship) = some (.done, [0, 180, 1, 200] ++ e16 120 ++ [150, 0]) := by decide

/-- The worked computation (Section 5.3), its lower limit, and stage 4 of Section 6.2. -/
theorem test_charge_computation :
    let bar : Outlet := ⟨true, 180, none, 60, 0, true⟩
    ship.computeCharge 1250 2 bar = some ⟨1359, 245, 1604⟩ ∧ ship.computeCharge 1400 2 bar = some ⟨1522, 274, 1796⟩
      ∧ ship.computeCharge 1450 2 bar = some ⟨1576, 284, 1860⟩ ∧ ship.computeCharge 1 0 bar = some ⟨1, 0, 1⟩
      ∧ ship.computeCharge 0 0 bar = none ∧ ship.computeCharge 1 3 bar = none ∧ holdAmount 1604 150 = 1845
      ∧ holdAmount 960 150 = 1104 ∧ holdAmount 1 200 = 2 := by decide

/-- 300 cents at 180 per mille (Section 6.6, minute 215): approved without the tab, past the day limit with it. -/
theorem test_charge :
    let ask : State → State := fun s => asking s 2 100 .charge (e32 1975 ++ e8 2 ++ e32 300 ++ e8 0 ++ e8 1)
    let t := ran (.charge 2) (ask ship)
    replyOf 2 t = some (.approved, e32 354 ++ e32 300 ++ e32 54 ++ e32 1746)
      ∧ (t.folioAt 9).map Folio.balance = some 10354 ∧ (t.guestAt 5).map Guest.spent = some 3254
      ∧ replyOf 2 (ran (.charge 2) (ask tab)) = some (.denyDayLimit, []) := by decide

theorem test_balance :
    replyOf 2 (ran (.balance 2) (asking ship 2 100 .balance (e32 1975 ++ e8 2)))
      = some (.allowance, e32 2100 ++ e32 40000 ++ e32 2900) := by decide

/-! ### Holds (Section 6.6) -/

theorem test_authorise :
    replyOf 2 tab = some (.approved, [3, 5] ++ e32 1604 ++ e32 1845)
      ∧ tab.holdAt 3 = ⟨.active ⟨9, 5, 30, 1845, 1907200⟩, 5⟩ ∧ (tab.folioAt 9).map Folio.held = some 1845
      ∧ (tab.folioAt 9).map Folio.holds = some [3] ∧ (tab.guestAt 5).map Guest.held = some 1845 := by decide

/-- Minutes 260 and 262: with the gratuity of 200 installed, 1,420 is over the hold and 1,400 within it. -/
theorem test_complete :
    let ask : Nat → State := fun a => ran (.complete 2) (asking tab.rollDay 2 100 .complete ([3, 5] ++ e32 a ++ e8 2))
    replyOf 2 (ask 1420) = some (.overHold, e32 1853 ++ e32 1845)
      ∧ replyOf 2 (ask 1400) = some (.approved, e32 1826 ++ e32 1522 ++ e32 304)
      ∧ (ask 1400).holdAt 3 = ⟨.free, 5⟩ ∧ ((ask 1400).guestAt 5).map Guest.spent = some 1826 := by decide +kernel

theorem test_void :
    let t := ran (.void 2) (asking tab 2 100 .void [3, 5])
    replyOf 2 t = some (.voided, e32 1845) ∧ (t.folioAt 9).map Folio.held = some 0
      ∧ replyOf 2 (ran (.void 2) (asking tab 2 100 .void [3, 4])) = some (.unknownHold, [])
      ∧ replyOf 2 (ran (.void 2) (asking ship 2 100 .void [0, 1])) = some (.holdLapsed, []) := by decide

theorem test_release_folio_holds :
    let t := ran (.releaseFolioHolds (cmd (e16 9))) tab
    answerOf t = some (.done, e16 1 ++ e32 1845) ∧ t.holdAt 3 = ⟨.free, 5⟩
      ∧ (t.guestAt 5).map Guest.held = some 0 := by decide

theorem test_read_hold :
    answerOf (ran (.readHold (cmd (e8 3))) tab)
      = some (.done, [1, 5] ++ e16 9 ++ e16 5 ++ e16 30 ++ e32 1845 ++ e32 1907200 ++ e32 7200 ++ e16 252 ++ e16 1
        ++ e16 3) := by decide

/-! ### Presence and tallies (Chapter 7) -/

theorem test_set_gangway :
    answerOf (ran (.setGangway (cmd (e16 0 ++ e8 2 ++ e8 1 ++ e16 300))) ship) = some (.done, [1] ++ e16 255) := by decide

theorem test_set_presence :
    let t := ran (.setPresence (cmd (e16 1 ++ e8 2))) ship
    answerOf t = some (.done, [2]) ∧ t.tally.aboard = 1 ∧ t.tally.ashore = 2 ∧ cell t.tally.aboardAt 2 = 0
      ∧ answerOf (ran (.setPresence (cmd (e16 6 ++ e8 1))) ship) = some (.wrongState, []) := by decide

/-- STATION_ABOARD 2 stands at 1: a watch for 3 is armed, one for 1 fires at once (R127). -/
theorem test_set_tally_watch :
    answerOf (ran (.setTallyWatch (cmd (e8 1 ++ e8 0 ++ e8 3 ++ e16 2 ++ e16 3))) ship) = some (.done, [1] ++ e16 1)
      ∧ answerOf (ran (.setTallyWatch (cmd (e8 1 ++ e8 0 ++ e8 3 ++ e16 2 ++ e16 1))) ship) = some (.done, [0])
      ∧ (ran (.setTallyWatch (cmd (e8 1 ++ e8 0 ++ e8 3 ++ e16 2 ++ e16 1))) ship).notice.flags = 0x101 := by decide

theorem test_set_watch_groups :
    (ran (.setWatchGroups (cmd [0x80, 0x20])) ship).tally.groupEnable = 0x8020 := by decide

theorem test_read_tallies :
    (answerOf (ran (.readTallies (cmd [])) ship)).map (fun a => a.2.take 12)
      = some [0, 1, 0, 2, 0, 1, 0, 1, 0, 5, 0, 0] := by decide

/-- An inbound pass of the guest ashore, whose watch group is enabled; guest 1 has passed 4 seconds ago (Section 7.7). -/
theorem test_gate :
    let s := ship.withTally { ship.tally with groupEnable := 0x20 }
    let t := ran (.gate 3) (asking s 3 20 .gate (e32 40112 ++ e8 0))
    replyOf 3 t = some (.passed, [1] ++ e16 0) ∧ (t.guestAt 0).bind Guest.lastPass = some 1900000
      ∧ t.tally.groupPending = 0x20 ∧ t.notice.flags = 0x40
      ∧ replyOf 3 (ran (.gate 3) (asking s 3 21 .gate (e32 40113 ++ e8 0))) = some (.repeated, []) := by decide

/-- A guest aboard at an inbound gate, and at an outbound gate of a gangway that is inbound only (Section 7.7). -/
theorem test_gate_refusals :
    let s := ran (.setGangway (cmd (e16 0 ++ e8 2 ++ e8 2 ++ e16 0))) ship
    replyOf 3 (ran (.gate 3) (asking ship 3 20 .gate (e32 1975 ++ e8 2))) = some (.denyPassback, [1])
      ∧ replyOf 3 (ran (.gate 3) (asking s 3 21 .gate (e32 1975 ++ e8 2))) = some (.denyClosed, [1])
      ∧ replyOf 3 (ran (.gate 3) (asking alarm 3 21 .gate (e32 1975 ++ e8 2))) = some (.denyMode, []) := by decide

/-! ### Alarms and musters (Section 8.6) -/

theorem test_start_muster :
    answerOf alarm = some (.done, [0, 4]) ∧ alarm.tally.epoch = 4 ∧ total alarm.tally.unmustered = 2
      ∧ alarm.mode.muster = true := by decide

/-- The guest ashore is corrected and struck off at the reader of station 5; a guest of station 2 there is ELSEWHERE. -/
theorem test_muster :
    let t := ran (.muster 2) (asking alarm 2 41 .muster (e32 40112 ++ e8 0))
    replyOf 2 t = some (.mustered, e16 0 ++ e16 5 ++ [1]) ∧ cell t.tally.unmustered 5 = 1
      ∧ cell t.tally.aboardAt 5 = 2
      ∧ replyOf 2 (ran (.muster 2) (asking t 2 41 .muster (e32 40112 ++ e8 0)))
        = some (.alreadyMustered, e16 0 ++ e16 5) := by decide

theorem test_muster_elsewhere :
    let t := ran (.muster 2) (asking alarm 2 41 .muster (e32 40113 ++ e8 0))
    replyOf 2 t = some (.musteredElsewhere, e16 1 ++ e16 2 ++ [0]) ∧ cell t.tally.unmustered 2 = 0 := by decide

theorem test_set_stations :
    let t := ran (.setStations (cmd [0, 0x01])) (alarm.withLink ⟨.empty, []⟩)
    answerOf t = some (.done, [0, 0x01]) ∧ t.tally.complete = true ∧ t.notice.flags = 0x201 := by decide

theorem test_alarm_level_change :
    ((ran (.alarmLevelChange 0 .high) ship).inputAt 0).interval = some 0
      ∧ ((ran (.alarmLevelChange 1 .high) ship).inputAt 1).interval = none := by decide

theorem test_qualified_assertion :
    let t := ran (.qualifiedAssertion 0) (ran (.alarmLevelChange 0 .high) ship)
    t.mode.muster = true ∧ t.tally.epoch = 4 ∧ t.notice.inputBits = 1 ∧ t.notice.flags = 0x800
      ∧ (t.inputAt 0).asserted = true := by decide

/-- END_MUSTER is refused while AL0 is ASSERTED, and accepted after its qualified release. -/
theorem test_end_muster :
    let t := ran (.qualifiedAssertion 0) (ran (.alarmLevelChange 0 .high) ship)
    let u := ran (.qualifiedRelease 0) (ran (.alarmLevelChange 0 .low) t)
    answerOf (ran (.endMuster (cmd [])) t) = some (.lineActive, e16 1 ++ [0])
      ∧ answerOf (ran (.endMuster (cmd [])) u) = some (.done, [])
      ∧ (ran (.endMuster (cmd [])) u).mode.muster = false ∧ (ran (.endMuster (cmd [])) u).tally.epoch = 4 := by decide

theorem test_qualified_release :
    let t := ran (.qualifiedAssertion 0) (ran (.alarmLevelChange 0 .high) ship)
    ((ran (.qualifiedRelease 0) (ran (.alarmLevelChange 0 .low) t)).inputAt 0).asserted = false
      ∧ ((ran (.qualifiedRelease 0) t).inputAt 0).asserted = true := by decide

theorem test_lockdown :
    (ran (.setLockdown (cmd [])) ship).mode.lockdown = true
      ∧ (ran (.clearLockdown (cmd [])) (ship.withMode { ship.mode with lockdown := true })).mode.lockdown = false := by
  decide

theorem test_charging :
    (ran (.stopCharging (cmd [])) ship).mode.charging = true
      ∧ (ran (.resumeCharging (cmd [])) (ship.withMode { ship.mode with charging := true })).mode.charging = false := by
  decide

theorem test_set_alarm_input :
    answerOf (ran (.setAlarmInput (cmd [1, 0, 1, 2])) quay) = some (.done, [0, 1, 2, 0])
      ∧ ((ran (.setAlarmInput (cmd [1, 0, 1, 2])) quay).inputAt 1).interval = some 0
      ∧ answerOf (ran (.setAlarmInput (cmd [1, 0, 1, 2])) ship) = some (.locked, []) := by decide

theorem test_read_modes :
    (answerOf (ran (.readModes (cmd [])) ship)).map (fun a => a.2.take 9) = some [1, 1, 1, 0, 0, 1, 0, 1, 0] := by decide

/-! ### The clock (Chapter 9) -/

theorem test_set_clock :
    let t := ran (.setClock (cmd (e16 15 ++ e16 1439))) ship
    answerOf t = some (.done, e16 15 ++ e16 1439 ++ e32 1900000) ∧ t.clock.second = 0
      ∧ t.clock.lastRollover = 1900000
      ∧ answerOf (ran (.setClock (cmd (e16 15 ++ e16 1440))) ship) = some (.range, []) := by decide

/-- The table of R152. -/
theorem test_shift_table :
    let row : Nat → Nat → Int → Nat × Bool := fun rollover minute d =>
      (shiftedMinute minute d, decide (crossesRollover minute rollover d))
    row 240 210 60 = (270, true) ∧ row 240 180 60 = (240, true) ∧ row 240 240 60 = (300, false)
      ∧ row 10 1410 60 = (30, true) ∧ row 240 270 (-60) = (210, false) := by decide

theorem test_shift_local_time :
    let s := ship.withClock { ship.clock with minute := 210, lastRollover := 1828000 }
    answerOf (ran (.shiftLocalTime (cmd (e16 60))) s) = some (.done, e16 270 ++ [1])
      ∧ (ran (.shiftLocalTime (cmd (e16 60))) s).clock.day = 15
      ∧ answerOf (ran (.shiftLocalTime (cmd (e16 60))) (s.withClock { s.clock with lastRollover := 1828001 }))
        = some (.done, e16 270 ++ [2]) := by decide

theorem test_set_rollover_minute :
    (ran (.setRolloverMinute (cmd (e16 300))) ship).clock.rollover = 300 := by decide

theorem test_read_clock :
    answerOf (ran (.readClock (cmd [])) ship)
      = some (.done, [0] ++ e32 1900000 ++ e16 58 ++ e16 600 ++ e16 14 ++ e16 240 ++ e32 1850000 ++ e32 22000 ++ e16 1
        ++ e16 1) := by decide

theorem test_second_arrival :
    (ran .secondArrival ship).clock = ⟨true, 1900001, 59, 600, 14, 240, 1850000, 0⟩
      ∧ (ran .secondArrival (ran .secondArrival ship)).clock = ⟨true, 1900002, 0, 601, 14, 240, 1850000, 0⟩ := by decide

/-- Minute 240 of Section 6.6: the tick into the rollover minute rolls the day and installs the staged gratuity. -/
theorem test_minute_tick :
    let s := ship.withClock { ship.clock with second := 59, minute := 239, lastRollover := 1800000 }
    (ran .minuteTick s).clock = ⟨true, 1900001, 0, 240, 15, 240, 1900001, 0⟩
      ∧ ((ran .minuteTick s).outletAt 30).gratuity = 200 ∧ (ran .minuteTick s).notice.flags = 0x10
      ∧ (ran .minuteTick ship).clock = ship.clock := by decide

/-- The hold of the tab lapses at its expiry (Section 6.6, minute 370). -/
theorem test_hold_lapse :
    let s := tab.withClock { tab.clock with voyage := 1907199 }
    let t := ran .holdLapse s
    t.holdAt 3 = ⟨.lapsed ⟨9, 5, 30, 1845, 1907200⟩, 5⟩ ∧ t.hold.lapsed = [2, 1, 0, 3]
      ∧ (t.folioAt 9).map Folio.held = some 0 ∧ t.notice.flags = 8 ∧ t.clock.voyage = 1907200 := by decide

/-! ### Lanes (Chapter 10) -/

theorem test_field_service :
    answerOf (ran (.haltField (cmd [])) ship) = some (.done, [1])
      ∧ (ran (.resumeField (cmd [])) State.reset).field.running = true := by decide

theorem test_add_post :
    let p := e16 1 ++ e16 1023 ++ e8 1 ++ e16 0 ++ e16 7 ++ e8 2 ++ e16 0
    let t := ran (.addPost (cmd p)) quay
    answerOf t = some (.done, e16 5) ∧ t.postAt 1 1023 = some (5, ⟨1, 1023, .gate 7 .inbound⟩)
      ∧ answerOf (ran (.addPost (cmd p)) (t.withLink ⟨.empty, []⟩)) = some (.duplicate, []) := by decide

theorem test_remove_post :
    answerOf (ran (.removePost (cmd (e16 3 ++ e16 20))) ship) = some (.done, e16 1)
      ∧ (ran (.removePost (cmd (e16 3 ++ e16 20))) ship).postAt 3 20 = none := by decide

theorem test_read_posts :
    (answerOf (ran (.readPosts (cmd (e16 3))) ship)).map (fun a => a.2.take 21)
      = some (e16 2 ++ e16 3 ++ e16 2 ++ e16 40 ++ [2] ++ e16 2 ++ e16 4 ++ e16 2 ++ e16 41 ++ [2] ++ e16 5
        ++ [0]) := by decide

theorem test_read_lanes :
    (answerOf (ran (.readLanes (cmd [])) ship)).map (fun a => a.2.take 12)
      = some ([0] ++ e16 0 ++ [0, 0] ++ e16 0 ++ [1] ++ e16 7 ++ e16 7) := by decide

/-- The worked frame of Section 12.3, its CRC worked out apart from the model, and the same frame with one bit wrong. -/
theorem test_request_frame :
    let body : List Byte := [0xA5, 0x01, 0x2C, 9, 1, 8, 0, 0x82, 0x14, 0, 0, 0x9C, 0xB1, 0]
    ((ran (.requestFrame 1 (body ++ [0xDE, 0x95])) ship).laneAt 1).queue
        = [⟨300, 9, .entry, [0, 0x82, 0x14, 0, 0, 0x9C, 0xB1, 0]⟩]
      ∧ ((ran (.requestFrame 1 (body ++ [0xDE, 0x94])) ship).laneAt 1).queue = []
      ∧ (ran (.requestFrame 1 (body ++ [0xDE, 0x94])) ship).notice.laneBits = 2 := by decide +kernel

/-- Frame 19 of Section 10.5 meets a full queue: BUSY waits, and goes out when the reply under way completes. -/
theorem test_reply_frame_complete :
    let r : Request := ⟨5, 11, .balance, []⟩
    let s := ship.putLane 2 ⟨[], List.replicate 8 r, .sending ⟨5, 10, .balance, .approved, []⟩, [], []⟩
    let t := s.receiveRequest 2 ⟨5, 19, .balance, []⟩
    (t.laneAt 2).busy = [⟨5, 19, .balance, .busy, []⟩]
      ∧ ((ran (.replyFrameComplete 2) t).laneAt 2).transmitter = .sending ⟨5, 19, .balance, .busy, []⟩
      ∧ ((ran (.replyFrameComplete 2) t).laneAt 2).sent.take 7 = [0xA5, 0, 5, 10, 4, 3, 0] := by decide

/-! ### The link and the notices (Chapter 11) -/

theorem test_short_transaction : exec (.shortTransaction [0x93, 1]) ship = .next ship := rfl

theorem test_unknown_command :
    answerOf (ran (.unknownCommandFrame 0x26 (cmd [])) ship) = some (.unknownCommand, [])
      ∧ answerOf (ran (.unknownCommandFrame 0x26 ⟨7, 1, []⟩) ship) = some (.badFrame, []) := by decide

theorem test_status :
    (ran (.status ⟨0, 0, 11⟩) ship).link = ⟨.empty, [2, 6, 0, 0, 0, 0, 0, 0, 0, 0, 0]⟩ := by decide

/-- A response is delivered whole or kept (R169). -/
theorem test_fetch :
    let s := ran (.readHold (cmd (e8 3))) ship
    (ran (.fetch ⟨0, 0, 12⟩) s).link = ⟨.empty, [0x61, 7, 0, 8, 0, 4, 0, 253, 0, 0, 0, 3]⟩
      ∧ (ran (.fetch ⟨0, 0, 11⟩) s).link.slot = s.link.slot
      ∧ (ran (.fetch ⟨0, 0, 5⟩) ship).link.sdo = [2, 0, 0xFF, 1, 0] := by decide

theorem test_link_overrun :
    let s := ran (.readHold (cmd (e8 3))) ship
    (ran (.setLockdown (cmd [])) s).mode.lockdown = false ∧ (ran (.setLockdown (cmd [])) s).notice.flags = 3
      ∧ (ran (.setLockdown (cmd [])) s).link.slot = s.link.slot := by decide

theorem test_set_notices :
    let t := ran (.setNotices (cmd [0xFF, 0xFF, 1, 0, 1])) ship
    answerOf t = some (.done, [0x1F, 0xFF, 1, 0, 1]) ∧ t.notice.atn0 = true ∧ t.notice.atn1 = true := by decide

theorem test_clear_notices :
    let s := (ship.raiseLaneFault 2).withTally { ship.tally with groupPending := 0x20 }
    answerOf (ran (.clearNotices (cmd [0, 0x44])) s) = some (.done, [0, 0])
      ∧ (ran (.clearNotices (cmd [0, 0x44])) s).notice.laneBits = 0
      ∧ (ran (.clearNotices (cmd [0, 0x44])) s).tally.groupPending = 0 := by decide

theorem test_read_notices :
    answerOf (ran (.readNotices (cmd [])) (ship.raiseAlarmLine 3))
      = some (.done, [0x08, 0x00, 0x80, 0, 0, 0, 0, 0, 0, 0, 0, 0]) := by decide

/-- With no command waiting, a step is one period of the time base (log entry 17). -/
theorem test_idle_step :
    step ship = .next (ship.withClock { ship.clock with phase := 1 }) := by rfl

/-! ### Witnesses: for each statement with hypotheses, states and operands that meet them, clause by clause -/

theorem test_witness_StepTakesFrontCommand :
    (ship.withPending [.secondArrival, .holdLapse]).pending = .secondArrival :: [.holdLapse] := rfl

/-- The quay in a scrub that has just begun, with the clock stopped. -/
def scrubbing : State :=
  { quay with
    store := { quay.store with scrub := some 0 }, clock := { quay.clock with running := false }
    link := ⟨.scrubbing (some ⟨0x13, 7, .done, []⟩), []⟩ }

/-- The ship with the clock stopped and a lockdown panel on AL3 at its active level. -/
def panel : State :=
  { ship with
    clock := { ship.clock with running := false }
    mode := { ship.mode with inputs := ship.mode.inputs.set 3 ⟨true, .low, .lockdown, false, .low, some 0, false⟩ } }

theorem test_witness_ScrubRunsItsPeriods :
    scrubbing.pending = [] ∧ scrubbing.clock.running = false ∧ (∀ n : Fin 4, (scrubbing.inputAt n).interval = none)
      ∧ scrubbing.store.scrub = some 0 ∧ scrubbing.link.slot = .scrubbing (some ⟨0x13, 7, .done, []⟩) := by decide

theorem test_witness_ActiveLevelHeldIsQualified :
    panel.pending = [] ∧ panel.clock.running = false ∧ panel.store.scrub = none
      ∧ (∀ m : Fin 4, m ≠ 3 → (panel.inputAt m).interval = none)
      ∧ panel.inputAt 3 = ⟨true, .low, .lockdown, false, .low, some 0, false⟩ := by decide

theorem test_witness_SecondTakesItsPeriods :
    let at' : Nat → State := fun k => ship.withClock { ship.clock with phase := k }
    (∀ k ∈ [0, 32766, 32767], (at' k).pending = [] ∧ (at' k).clock.running = true ∧ (at' k).store.scrub = none
      ∧ ∀ n : Fin 4, ((at' k).inputAt n).interval = none)
      ∧ (at' 32766).clock.phase + 1 < 32768 ∧ (at' 32767).clock.phase = 32767 := by decide

theorem test_witness_ScrubCompletion :
    scrubbing.store.scrub.isSome = true ∧ scrubbing.link.slot = .scrubbing (some ⟨0x13, 7, .done, []⟩)
      ∧ (ran .warmStart scrubbing).store.scrub.isSome = true
      ∧ (ran .warmStart scrubbing).link.slot = .scrubbing none ∧ ship.store.scrub = none := by decide

theorem test_witness_OccupiedSlotDiscardsFrames :
    (0xB2 : Byte) ≠ 0x01 ∧ (0xB2 : Byte) ≠ 0x02 ∧ scrubbing.link.slot ≠ .empty
      ∧ (ran (.readHold (cmd (e8 3))) ship).link.slot ≠ .empty
      ∧ (ran (.resumeField (cmd [])) scrubbing).field = scrubbing.field
      ∧ (ran (.startMuster (cmd [])) scrubbing).mode = scrubbing.mode
      ∧ (ran (.resumeField (cmd [])) scrubbing).notice.flags.getLsbD 1 = true := by decide

theorem test_witness_FrameTestsInOrder :
    let sized : HostFrame → Prop := fun f => f.length.toNat ≤ 120 ∧ f.payload.length = f.length.toNat
    ship.SlotEmpty ∧ quay.SlotEmpty ∧ State.reset.SlotEmpty ∧ ¬ sized ⟨7, 121, List.replicate 121 0⟩
      ∧ ¬ sized ⟨7, 1, []⟩ ∧ sized ⟨7, 120, List.replicate 120 0⟩ ∧ sized (frameOf 7 []) ∧ (0x26 : Byte) ∉ commandCodes
      ∧ (⟨0x12, 0, .lock⟩ : Command) ∈ catalogue ∧ (⟨0x13, 0, .finish⟩ : Command) ∈ catalogue
      ∧ (⟨0x14, 7, .structural⟩ : Command) ∈ catalogue ∧ (⟨0x10, 8, .configure⟩ : Command) ∈ catalogue
      ∧ State.reset.store.part = .blank ∧ quay.store.part = .setup ∧ ship.store.part = .inVoyage := by decide +kernel

theorem test_witness_FetchDeliversWhole :
    (ran (.readHold (cmd (e8 3))) ship).link.slot = .ready ⟨0x61, 7, .done, [0, 4, 0, 253, 0, 0, 0, 3]⟩
      ∧ ship.link.slot = .empty ∧ scrubbing.link.slot = .scrubbing (some ⟨0x13, 7, .done, []⟩) := by decide

theorem test_witness_TransactionsDecodeToThemselves :
    encodeTransaction (.readHold (cmd (e8 3))) = some [0x61, 7, 1, 3]
      ∧ encodeTransaction (.shortTransaction [0x61, 7]) = some [0x61, 7]
      ∧ encodeTransaction (.status ⟨0, 0, 2⟩) = some [0x01, 0, 0, 0, 0]
      ∧ encodeTransaction (.unknownCommandFrame 0x26 (cmd [])) = some [0x26, 7, 0]
      ∧ (Instr.readHold (cmd (e8 3))).wellFormed = true := by decide

theorem test_witness_ReadsOfWholeBlocks : State.reset.SlotEmpty ∧ ship.SlotEmpty ∧ ship.HasRecords := by decide

theorem test_witness_ReadsOfOneRecord :
    ship.cardSlotAt 693 = some (.inUse ⟨90001, 255, .officer, .active, 0, none⟩) ∧ 693 < ship.store.caps.cards
      ∧ ship.roster.guests.find? (fun e => e.2.reference == 51001)
        = some (0, ⟨51001, some 253, none, .adult, true, none, 5, true, [40112], .ashore, 3, none, 14, 0, 0⟩)
      ∧ (ship.guestAt 0).isSome = true ∧ 64 ≤ ship.store.caps.guests ∧ 289 < ship.store.cabinCount
      ∧ ship.folioAt 9 = some ⟨709, .opened, 50000, 10000, 0, 1, []⟩ := by decide

theorem test_witness_PartStateCommands :
    let ended : State := quay.withStore { quay.store with part := .inVoyage }
    State.reset.store.part ≠ .inVoyage ∧ quay.store.part = .setup ∧ quay.roster.guests = [] ∧ quay.cards.slots = []
      ∧ quay.folio.folios = [] ∧ grantAll ⟨0, 0, 0, 0⟩ = some ⟨64, 64, 64, 1024⟩
      ∧ grantAll ⟨4096, 8000, 2000, 2048⟩ = none ∧ quay.store.cabinCount ≠ 0 ∧ ended.SlotEmpty
      ∧ ended.hold.slots = [] ∧ ended.mode.muster = false
      ∧ (quay.withRoster ship.roster).roster.guests ≠ [] := by decide

theorem test_witness_GrantsFitTheStore :
    grantAll ⟨0, 0, 0, 0⟩ = some ⟨64, 64, 64, 1024⟩ ∧ grantAll ⟨4096, 7488, 384, 1024⟩ = some ⟨4096, 7488, 384, 1024⟩
      ∧ grantAll ⟨65, 1, 64, 1025⟩ = some ⟨128, 64, 64, 2048⟩ := by decide

theorem test_witness_DeckMapAndLaneRanges :
    let s := quay.withStore { quay.store with caps := ⟨4096, 64, 64, 1024⟩ }
    let count : DeckSlot → Nat := fun d => ({ s.store with deckMap := putCell s.store.deckMap 19 d } : Store).cabinCount
    s.SlotEmpty ∧ s.store.part = .setup ∧ s.roster.guests = []
      ∧ (∀ n : Fin 8, ∀ o ∈ cell s.cabin.overrides n, o.enable = false)
      ∧ (∀ m : Fin 20, m ≠ 19 → (cell s.store.deckMap m).count ≠ 0 → (cell s.store.deckMap m).deck ≠ 20)
      ∧ count ⟨20, 1, 999⟩ ≤ s.store.caps.cabins ∧ count ⟨0, 0, 0⟩ ≤ s.store.caps.cabins := by decide

theorem test_witness_CabinCodesNameIndices :
    ship.store.DeckMapSound ∧ ship.store.cabinCount = 290 ∧ ship.store.decode 0x08250 = some (8, 289)
      ∧ ship.store.decode 0x07101 = some (7, 0) ∧ 9 < ((0x082A4 : CabinCode) >>> (4 * 1)).toNat % 16 := by decide

theorem test_witness_IssueCardPlaces :
    ship.SlotEmpty ∧ ship.HasRecords ∧ ship.lookupCard 1 = none
      ∧ (probeWindow ship.store.caps.cards 1).find? (fun j =>
        decide (ship.cardSlotAt j = none ∨ ship.cardSlotAt j = some .retired)) = some 634
      ∧ ship.cardSlotAt 634 = some .retired ∧ 5 < ship.store.caps.guests
      ∧ (ship.guestAt 5).map (fun g => (g.presence, g.cards.length)) = some (.aboard, 1)
      ∧ ship.lookupCard 105 = none ∧ ship.cardSlotAt 915 = none := by decide

theorem test_witness_CardCommandsOnOneCard :
    ship.lookupCard 1975 = some (631, ⟨1975, 2, .guest 5, .active, 10, some 19⟩)
      ∧ ship.lookupCard 90001 = some (693, ⟨90001, 255, .officer, .active, 0, none⟩)
      ∧ ship.lookupCard 2 = some (241, ⟨2, 0, .guest 6, .suspended, 0, none⟩)
      ∧ (ship.guestAt 5).map Guest.presence = some .aboard
      ∧ (ship.guestAt 6).map Guest.presence = some .departed := by decide

theorem test_witness_ResolutionTestsInOrder :
    ship.lookupCard 1 = none ∧ ship.lookupCard 988 = some (633, ⟨988, 0, .guest 1, .suspended, 10, some 19⟩)
      ∧ ship.lookupCard 1975 = some (631, ⟨1975, 2, .guest 5, .active, 10, some 19⟩) ∧ ship.clock.day = 14
      ∧ (⟨1975, 2, .guest 5, .active, 10, some 19⟩ : Card).validOn 10
      ∧ (⟨1975, 2, .guest 5, .active, 10, some 19⟩ : Card).validOn 19
      ∧ ¬ (⟨1975, 2, .guest 5, .active, 10, some 19⟩ : Card).validOn 20 := by decide

theorem test_witness_EnrolGuestEffects :
    ship.SlotEmpty ∧ ship.HasRecords ∧ Table.wf ship.roster.guests ∧ 9 < ship.store.caps.folios
      ∧ (ship.folioAt 9).map Folio.state = some .opened ∧ ship.store.cabinIndex 0x07240 = some 139
      ∧ (∀ e ∈ ship.roster.guests, e.2.reference ≠ 4294967295) ∧ ship.guestAt 3 = none
      ∧ (∀ j, j < 3 → ship.guestAt j ≠ none) ∧ 3 < ship.store.caps.guests
      ∧ (ship.cabinAt 139).occupants.length < 6 := by decide

theorem test_witness_AmendGuestFields :
    ship.SlotEmpty ∧ ship.HasRecords ∧ 2 < ship.store.caps.guests
      ∧ ship.guestAt 2
        = some ⟨51003, some 139, some 3, .child, false, none, 2, false, [], .expected, 0, none, 14, 0, 0⟩
      ∧ (∀ e ∈ ship.roster.guests, e.2.reference ≠ 60000) ∧ ship.store.cabinIndex 0x08214 = some 253
      ∧ (ship.cabinAt 253).occupants.length < 6 ∧ ship.folioAt 3 = some ⟨703, .closed, 1000, 0, 0, 1, []⟩
      ∧ 9 < ship.store.caps.folios ∧ ship.folioAt 9 = some ⟨709, .opened, 50000, 10000, 0, 1, []⟩
      ∧ (ship.guestAt 1).map (fun g => (g.presence, g.station)) = some (.aboard, 2) ∧ ship.mode.muster = false := by
  decide

/-- Cabin, folio and station of a guest who has not mustered yet, all in one command (R44 to R47). -/
theorem test_witness_AmendGuestFields_together :
    let s := alarm.withLink State.reset.link
    let t := ran (.amendGuest (cmd (e16 1 ++ e8 2 ++ e32 0 ++ e8 1 ++ eCode 0x07139 ++ e8 1 ++ e16 9 ++ e8 2 ++ e8 0
      ++ e8 2 ++ e8 0 ++ e8 1 ++ e32 20000000 ++ e8 1 ++ e16 4 ++ e8 2 ++ e8 0))) s
    s.SlotEmpty ∧ s.HasRecords ∧ s.mode.muster = true ∧ (s.guestAt 1).map Guest.epoch = some 3 ∧ s.tally.epoch = 4
      ∧ (s.guestAt 1).map Guest.held = some 0 ∧ s.store.cabinIndex 0x07139 = some 38
      ∧ answerOf t = some (.done, []) ∧ (t.guestAt 1).map Guest.cabin = some (some 38)
      ∧ (t.guestAt 1).map Guest.folio = some (some 9) ∧ (t.guestAt 1).map Guest.dayLimit = some (some 10000000)
      ∧ (t.cabinAt 253).occupants = [0] ∧ (t.cabinAt 38).occupants = [1]
      ∧ (t.folioAt 9).map Folio.members = some 2
      ∧ (cell t.tally.aboardAt 2, cell t.tally.aboardAt 4) = (0, 1)
      ∧ (cell t.tally.unmustered 2, cell t.tally.unmustered 4) = (0, 1) := by decide

theorem test_witness_DepartGuestSuspendsCards :
    ship.SlotEmpty ∧ ship.HasRecords ∧ ship.CardsSound ∧ (ship.guestAt 0).map Guest.presence = some .ashore
      ∧ (ship.guestAt 2).map Guest.presence = some .expected ∧ ship.cardAt 593 ≠ none ∧ ship.cardAt 634 = none :=
  ⟨by decide, by decide, test_ship_cards_sound, by decide, by decide, by decide, by decide⟩

theorem test_witness_RetireGuestFreesRecord :
    ship.CardsSound ∧ ship.AssignmentsSound
      ∧ (ship.guestAt 0).map (fun g => (g.presence, g.held)) = some (.ashore, 0)
      ∧ (ship.guestAt 2).map (fun g => (g.presence, g.held)) = some (.expected, 0)
      ∧ (ship.guestAt 6).map (fun g => (g.presence, g.held)) = some (.departed, 0) :=
  ⟨test_ship_cards_sound, test_ship_assignments_sound, by decide, by decide, by decide⟩

theorem test_witness_CabinCommands :
    let s := ship.putOverride 1 (some ⟨0x08214, 253, .denyAll, true⟩)
    ship.SlotEmpty ∧ ship.HasRecords ∧ ship.store.cabinIndex 0x08214 = some 253
      ∧ (∀ m : Fin 8, m ≠ 7 → cell ship.cabin.overrides m = none) ∧ s.SlotEmpty ∧ (1 : Fin 8) ≠ 7
      ∧ cell s.cabin.overrides 1 = some ⟨0x08214, 253, .denyAll, true⟩ := by decide

/-- An ENTRY of a card at cabin 0 8 2 1 4 on lane 1. -/
def knocking (s : State) (serial issue : Nat) : State :=
  asking s 1 300 .entry (eCode 0x08214 ++ e32 serial ++ e8 issue)

theorem test_witness_EntryAdmissions :
    let s := knocking ship 90001 255
    s.Heads 1 ⟨300, 9, .entry, eCode 0x08214 ++ e32 90001 ++ e8 255⟩ [] ∧ s.Serves
      ∧ s.store.decode 0x08214 = some (8, 253) ∧ cell s.store.laneDecks 1 = some ⟨7, 8⟩
      ∧ (s.resolve ⟨90001, 255⟩).toOption.map Resolution.holder = some .officer
      ∧ (s.resolve ⟨40113, 0⟩).toOption.map Resolution.holder = some (.guest 1)
      ∧ (s.resolve ⟨40112, 0⟩).toOption.map Resolution.holder = some (.guest 0)
      ∧ (s.resolve ⟨2962, 0⟩).toOption.map Resolution.holder = some (.service ⟨7, 9⟩) ∧ s.mode.lockdown = false
      ∧ s.activeOverride 253 = none ∧ (s.cabinAt 253).outOfOrder = false ∧ (s.cabinAt 253).occupants = [0, 1]
      ∧ (s.cabinAt 253).privacy = false ∧ insideWindow (s.cabinAt 253).window s.clock.minute = true := by decide

theorem test_witness_EntryAdmissions_override :
    let s := knocking (ship.putOverride 2 (some ⟨0x08214, 253, .admitOne 7301, true⟩)) 7301 0
    s.activeOverride 253 = some (2, ⟨0x08214, 253, .admitOne 7301, true⟩)
      ∧ (s.resolve ⟨7301, 0⟩).toOption.map Resolution.serial = some 7301 := by decide

theorem test_witness_UnservedRequestsUnavailable :
    let r : Request := ⟨300, 9, .entry, eCode 0x08214 ++ e32 7301 ++ e8 0⟩
    (knocking State.reset 7301 0).Heads 1 r [] ∧ (knocking State.reset 7301 0).field.running = false
      ∧ (knocking State.reset 7301 0).store.part = .blank ∧ (knocking scrubbing 7301 0).Heads 1 r []
      ∧ (knocking scrubbing 7301 0).store.scrub.isSome = true := by decide

theorem test_witness_PrivacyReports :
    let s := asking ship 1 300 .privacy (eCode 0x08214 ++ e8 true.toNat)
    s.Heads 1 ⟨300, 9, .privacy, eCode 0x08214 ++ e8 true.toNat⟩ [] ∧ s.Serves ∧ (s.cabinAt 253).occupants ≠ []
      ∧ s.store.decode 0x08214 = some (8, 253) ∧ s.store.decode 0x08215 = some (8, 254)
      ∧ (s.cabinAt 254).occupants = [] ∧ cell s.store.laneDecks 1 = some ⟨7, 8⟩ := by decide

theorem test_witness_FolioCommands :
    ship.SlotEmpty ∧ ship.HasRecords ∧ Table.wf ship.folio.folios
      ∧ (∀ e ∈ ship.folio.folios, e.2.number ≠ 4294967295) ∧ ship.folioAt 0 = none ∧ 9 < ship.store.caps.folios
      ∧ ship.folioAt 9 = some ⟨709, .opened, 50000, 10000, 0, 1, []⟩ ∧ (10000 : Int) + 0 + 10000000 ≤ 99999999
      ∧ (ship.putFolio 9 ⟨709, .frozen, 0, 0, 0, 1, []⟩).folioAt 9 = some ⟨709, .frozen, 0, 0, 0, 1, []⟩
      ∧ (ship.putFolio 9 ⟨709, .opened, 0, 0, 0, 0, []⟩).folioAt 9 = some ⟨709, .opened, 0, 0, 0, 0, []⟩ := by decide

theorem test_witness_CurrencyAndOutletCommands :
    ship.SlotEmpty ∧ State.reset.SlotEmpty ∧ (7 : Fin 8) ≠ 0 ∧ ship.outletAt 63 = Outlet.cold
      ∧ ship.outletAt 30 ≠ Outlet.cold := by decide

theorem test_witness_RoundingRules :
    499 = 1000 * 0 + 499 ∧ 2 * 499 < 1000 ∧ 500 = 1000 * 0 + 500 ∧ 1000 ≤ 2 * 500 ∧ 3000 = 1000 * 3 + 0 := by decide

/-- A till of outlet 30 on lane 2 that asks for guest 5. -/
def selling (s : State) (kind : RequestKind) (amount : Nat) : State :=
  asking s 2 100 kind (e32 1975 ++ e8 2 ++ e32 amount ++ e8 0 ++ e8 1)

/-- The guest and the folio of Section 6.6. -/
def drinker (limit : Option Nat) : Guest :=
  ⟨51005, none, some 9, .adult, true, limit, 5, false, [1975], .aboard, 3, none, 14, 2900, 0⟩

def party : Folio := ⟨709, .opened, 50000, 10000, 0, 1, []⟩

/-- What the resolution of the guest's card returns. -/
def beaker : Resolution := ⟨631, 1975, 2, .guest 5⟩

theorem test_witness_sells :
    (selling ship .charge 300).Sells 2 100 30 ⟨1975, 2⟩ 300 0 1 5 (drinker (some 5000)) 9 party ⟨300, 54, 354⟩ :=
  ⟨⟨rfl, by decide, rfl⟩, ⟨0, rfl⟩, rfl, rfl, rfl, rfl, ⟨⟨beaker, by decide, rfl⟩, rfl, by decide⟩, rfl, rfl, rfl, rfl,
    by decide, .inr ⟨rfl, rfl⟩⟩

theorem test_witness_sells_over_limit :
    (selling ship .charge 1781).Sells 2 100 30 ⟨1975, 2⟩ 1781 0 1 5 (drinker (some 5000)) 9 party ⟨1781, 321, 2102⟩ :=
  ⟨⟨rfl, by decide, rfl⟩, ⟨0, rfl⟩, rfl, rfl, rfl, rfl, ⟨⟨beaker, by decide, rfl⟩, rfl, by decide⟩, rfl, rfl, rfl, rfl,
    by decide, .inr ⟨rfl, rfl⟩⟩

theorem test_witness_sells_over_credit :
    (selling (ship.putGuest 5 (drinker none)) .charge 40000).Sells 2 100 30 ⟨1975, 2⟩ 40000 0 1 5 (drinker none) 9 party
      ⟨40000, 7200, 47200⟩ :=
  ⟨⟨rfl, by decide, rfl⟩, ⟨0, rfl⟩, rfl, rfl, rfl, rfl, ⟨⟨beaker, by decide, rfl⟩, rfl, by decide⟩, rfl, rfl, rfl, rfl,
    by decide, .inr ⟨rfl, rfl⟩⟩

theorem test_witness_sells_eight_holds :
    (selling (ship.putFolio 9 { party with holds := [4, 5, 6, 7, 8, 9, 10, 11] }) .authorise 300).Sells 2 100 30 ⟨1975, 2⟩
      300 0 1 5 (drinker (some 5000)) 9 { party with holds := [4, 5, 6, 7, 8, 9, 10, 11] } ⟨300, 54, 354⟩ :=
  ⟨⟨rfl, by decide, rfl⟩, ⟨0, rfl⟩, rfl, rfl, rfl, rfl, ⟨⟨beaker, by decide, rfl⟩, rfl, by decide⟩, rfl, rfl, rfl, rfl,
    by decide, .inr ⟨rfl, rfl⟩⟩

theorem test_witness_ChargePostsTotal :
    (selling ship .charge 300).Heads 2 ⟨100, 9, .charge, e32 1975 ++ e8 2 ++ e32 300 ++ e8 0 ++ e8 1⟩ []
      ∧ ship.computeCharge 300 0 (ship.outletAt 30) = some ⟨300, 54, 354⟩ ∧ 2900 + 0 + 354 ≤ 5000
      ∧ (10000 : Int) + 0 + 354 ≤ 50000
      ∧ ship.computeCharge 1780 0 (ship.outletAt 30) = some ⟨1780, 320, 2100⟩ ∧ 2900 + 0 + 2100 ≤ 5000
      ∧ ship.computeCharge 1781 0 (ship.outletAt 30) = some ⟨1781, 321, 2102⟩ ∧ 5000 < 2900 + 0 + 2102
      ∧ ship.computeCharge 40000 0 (ship.outletAt 30) = some ⟨40000, 7200, 47200⟩
      ∧ (50000 : Int) < 10000 + 0 + 47200 := by decide

theorem test_witness_RefusedRequestsChangeNothing :
    (selling ship .charge 300).Heads 2 ⟨100, 9, .charge, e32 1975 ++ e8 2 ++ e32 300 ++ e8 0 ++ e8 1⟩ [] := by decide

/-- An empty queue, a transmitter that is SENDING, a busy answer waiting: no take. -/
theorem test_witness_RefusedRequestsChangeNothing_no_take :
    let b : Reply := ⟨100, 8, .charge, .busy, []⟩
    let s := selling ship .charge 300
    let sending := s.putLane 2 { s.laneAt 2 with transmitter := .sending b }
    let waiting := s.putLane 2 { s.laneAt 2 with busy := [b] }
    (ship.laneAt 2).queue = [] ∧ (sending.laneAt 2).transmitter ≠ .idle ∧ (waiting.laneAt 2).busy ≠ []
      ∧ ran (.charge 2) ship = ship ∧ ran (.charge 2) sending = sending ∧ ran (.charge 2) waiting = waiting := by decide

/-- A pool with no FREE slot, its last slot LAPSED or ACTIVE too. -/
def pool (last : HoldStatus) (lapsed : List Nat) : HoldPool :=
  ⟨(List.range 255).map (fun k => (k, ⟨.active ⟨3, 2, 30, 1, 1900001⟩, 1⟩)) ++ [(255, ⟨last, 255⟩)], lapsed⟩

theorem test_witness_AuthoriseCreatesHold :
    ship.LapsedExact ∧ (ship.holdAt 3).status = .free ∧ (∀ j, j < 3 → (ship.holdAt j).status ≠ .free)
      ∧ holdAmount 354 150 = 408 ∧ 2900 + 0 + 408 ≤ 5000 ∧ (10000 : Int) + 0 + 408 ≤ 50000
      ∧ ([0, 1, 2, 3, 4, 5, 6, 7] : List Nat).length = 8 := by decide

theorem test_witness_AuthoriseCreatesHold_full :
    let s := ship.withHold (pool (.lapsed ⟨3, 2, 30, 1, 1800000⟩) [255])
    let t := ship.withHold (pool (.active ⟨3, 2, 30, 1, 1900001⟩) [])
    s.LapsedExact ∧ (∀ j, j < 256 → (s.holdAt j).status ≠ .free) ∧ t.LapsedExact
      ∧ ∀ j, j < 256 → (t.holdAt j).status ≠ .free := by decide +kernel

theorem test_witness_CompletionsAndVoids :
    let s := asking tab 2 100 .void [3, 5]
    s.Heads 2 ⟨100, 9, .void, e8 3 ++ e8 5⟩ [] ∧ s.Serves ∧ s.holdAt 3 = ⟨.active ⟨9, 5, 30, 1845, 1907200⟩, 5⟩
      ∧ (s.folioAt 9).isSome = true ∧ (s.guestAt 5).isSome = true
      ∧ s.computeCharge 1250 2 (s.outletAt 30) = some ⟨1359, 245, 1604⟩ ∧ 1604 ≤ 1845
      ∧ s.computeCharge 1450 2 (s.outletAt 30) = some ⟨1576, 284, 1860⟩ ∧ 1845 < 1860
      ∧ s.computeCharge 0 2 (s.outletAt 30) = none ∧ s.holdAt 2 = ⟨.lapsed ⟨9, 5, 31, 100, 1600000⟩, 7⟩
      ∧ s.holdAt 0 = ⟨.lapsed ⟨9, 5, 30, 1104, 1800000⟩, 1⟩ ∧ (s.holdAt 255).status = .free := by decide

theorem test_witness_CompletionsAndVoids_post : (asking tab 2 100 .void [3, 5]).HasPost 2 100 (.till 30) := ⟨0, rfl⟩

theorem test_witness_tab_holds : tab.ActiveHoldsSound ∧ tab.FolioHoldsExact ∧ tab.GuestHeldExact ∧ tab.LapsedExact := by
  decide

theorem test_witness_ReleaseEndsEveryHold :
    tab.SlotEmpty ∧ tab.HasRecords ∧ tab.HoldsSound ∧ 9 < tab.store.caps.folios
      ∧ tab.folioAt 9 = some ⟨709, .opened, 50000, 10000, 1845, 1, [3]⟩ :=
  have w := test_witness_tab_holds
  ⟨by decide, by decide, ⟨by decide, by decide, by decide, w.1, w.2.1, w.2.2.1, w.2.2.2, by decide⟩, by decide,
    by decide⟩

/-- A gate on lane 3 that reads a card. -/
def boarding (s : State) (terminal : BitVec 10) (serial issue : Nat) : State :=
  asking s 3 terminal .gate (e32 serial ++ e8 issue)

theorem test_witness_GatePasses :
    let s := boarding ship 21 40113 0
    s.Heads 3 ⟨21, 9, .gate, e32 40113 ++ e8 0⟩ [] ∧ s.Serves ∧ s.mode.muster = false ∧ s.mode.lockdown = false
      ∧ (s.guestAt 1).bind Guest.lastPass = some 1899996 ∧ 1900000 - 1899996 < (cell s.tally.gangways 0).guard
      ∧ (s.guestAt 1).map Guest.presence = some .aboard ∧ (s.guestAt 0).map Guest.presence = some .ashore
      ∧ (s.guestAt 0).bind Guest.lastPass = none ∧ (cell s.tally.gangways 0).state = .opened
      ∧ (cell s.tally.gangways 7).state = .closed := by decide

theorem test_witness_GatePasses_posts :
    (boarding ship 21 40113 0).HasPost 3 21 (.gate 0 .outbound)
      ∧ (boarding ship 20 40112 0).HasPost 3 20 (.gate 0 .inbound)
      ∧ (boarding ship 21 40113 0).Presents ⟨40113, 0⟩ 1
        ⟨51002, some 253, none, .adult, true, none, 2, false, [40113, 988], .aboard, 3, some 1899996, 14, 0, 0⟩
      ∧ (boarding ship 20 40112 0).Presents ⟨40112, 0⟩ 0
        ⟨51001, some 253, none, .adult, true, none, 5, true, [40112], .ashore, 3, none, 14, 0, 0⟩ :=
  ⟨⟨2, rfl⟩, ⟨1, rfl⟩, ⟨⟨_, rfl, rfl⟩, rfl, by decide⟩, ⟨_, rfl, rfl⟩, rfl, by decide⟩

theorem test_witness_TallyUnitSettings :
    ship.SlotEmpty ∧ cell ship.tally.aboardAt 2 = 1 ∧ min 65535 ship.store.caps.guests = 64 ∧ alarm.mode.muster = true
      ∧ (alarm.withLink ⟨.empty, []⟩).SlotEmpty := by decide

theorem test_witness_TallyEvaluations :
    let holds : Tally → Prop := fun t => (∃ i : Fin 16, t.stations.getLsbD i.val = true)
      ∧ ∀ i : Fin 16, t.stations.getLsbD i.val = true → cell t.unmustered i = 0
    ¬ holds alarm.tally ∧ holds ship.tally ∧ ¬ holds State.reset.tally := by decide

theorem test_witness_PresenceMoves :
    (ship.guestAt 0).map Guest.presence = some .ashore ∧ (ship.guestAt 1).map Guest.presence = some .aboard
      ∧ ship.SlotEmpty ∧ ship.HasRecords ∧ 1 < ship.store.caps.guests ∧ alarm.mode.muster = true
      ∧ (alarm.guestAt 1).map Guest.epoch = some 3 ∧ alarm.tally.epoch = 4 := by decide

theorem test_witness_MusterTaps :
    let s := asking alarm 2 41 .muster (e32 40112 ++ e8 0)
    s.Heads 2 ⟨41, 9, .muster, e32 40112 ++ e8 0⟩ [] ∧ s.Serves ∧ s.mode.muster = true ∧ s.tally.epoch = 4 := by decide

theorem test_witness_MusterTaps_guest :
    let s := asking alarm 2 41 .muster (e32 40112 ++ e8 0)
    s.HasPost 2 41 (.musterReader 5) ∧ s.Presents ⟨40112, 0⟩ 0
      ⟨51001, some 253, none, .adult, true, none, 5, true, [40112], .ashore, 3, none, 14, 0, 0⟩
      ∧ (s.putGuest 0 ⟨51001, some 253, none, .adult, true, none, 5, true, [40112], .aboard, 4, none, 14, 0, 0⟩).Presents
        ⟨40112, 0⟩ 0 ⟨51001, some 253, none, .adult, true, none, 5, true, [40112], .aboard, 4, none, 14, 0, 0⟩ :=
  ⟨⟨4, rfl⟩, ⟨⟨_, rfl, rfl⟩, rfl, by decide⟩, ⟨_, rfl, rfl⟩, rfl, by decide⟩

/-- The ship with AL0 ASSERTED in each role in turn. -/
def claiming (x : Role) : State :=
  { ship with mode := { ship.mode with inputs := ship.mode.inputs.set 0 ⟨true, .high, x, true, .high, none, false⟩ } }

theorem test_witness_ModeCommands :
    ship.mode.muster = false ∧ alarm.mode.muster = true ∧ (alarm.withLink ⟨.empty, []⟩).SlotEmpty
      ∧ (∀ x ∈ [Role.muster, .lockdown, .chargeStop], ship.claims x = [] ∧ (claiming x).SlotEmpty
        ∧ (claiming x).claims x = [0]) := by decide

theorem test_witness_AlarmInputCommands :
    quay.SlotEmpty ∧ quay.store.part = .setup ∧ (ship.inputAt 0).line ≠ .high ∧ (ship.inputAt 0).line = .low
      ∧ (∀ x ∈ [Role.none, .muster, .lockdown, .chargeStop],
        (⟨true, .high, x, false, .high, some 1310, false⟩ : AlarmInput).mayAssert
          ∧ (⟨true, .high, x, true, .high, some 0, true⟩ : AlarmInput).mayAssert
          ∧ ¬ (⟨true, .high, x, true, .high, some 0, false⟩ : AlarmInput).mayAssert
          ∧ (⟨true, .high, x, true, .low, some 1310, false⟩ : AlarmInput).mayRelease) := by decide

theorem test_witness_SecondArrivals :
    let s := tab.withClock { tab.clock with voyage := 1907199, second := 59, minute := 239, lastRollover := 1835200 }
    ship.HoldsSound ∧ ship.clock.running = true ∧ ship.clock.second = 58 ∧ State.reset.clock.running = false
      ∧ s.HoldsSound ∧ s.clock.running = true ∧ s.clock.second = 59 ∧ 239 + 1 = s.clock.rollover
      ∧ 72000 ≤ 1907200 - s.clock.lastRollover ∧ (s.holdAt 3).activeHold.map Hold.expiry = some 1907200 :=
  have w := test_witness_tab_holds
  ⟨test_ship_holds_sound, by decide, by decide, by decide,
    ⟨by decide, by decide, by decide, by decide, by decide, by decide, w.2.2.2, by decide⟩, by decide, by decide,
    by decide, by decide, by decide⟩

theorem test_witness_ClockCommands :
    ship.SlotEmpty ∧ ship.clock.running = true ∧ State.reset.SlotEmpty ∧ State.reset.clock.running = false
      ∧ crossesRollover 210 240 60 ∧ crossesRollover 1410 10 60 ∧ crossesRollover 239 240 1
      ∧ ¬ crossesRollover 240 240 180 ∧ ¬ crossesRollover 270 240 (-180) ∧ Table.wf ship.folio.outlets := by decide

theorem test_witness_FieldServiceAndPosts :
    quay.SlotEmpty ∧ quay.store.part = .setup ∧ Table.wf quay.field.posts ∧ Table.find quay.field.posts 5 = none
      ∧ (∀ j, j < 5 → Table.find quay.field.posts j ≠ none)
      ∧ (∀ e ∈ quay.field.posts, e.2.lane = 1 → e.2.terminal ≠ 1023)
      ∧ quay.postAt 3 20 = some (1, ⟨3, 20, .gate 0 .inbound⟩) := by decide

theorem test_witness_LaneFrames :
    let r : Request := ⟨5, 11, .balance, []⟩
    let b : Reply := ⟨5, 10, .balance, .busy, []⟩
    (ship.laneAt 1).receiver = [] ∧ (ship.laneAt 1).queue.length < 8 ∧ (ship.laneAt 1).transmitter = .idle
      ∧ ((ship.putLane 2 ⟨[], List.replicate 8 r, .sending b, List.replicate 7 b, []⟩).laneAt 2).busy.length < 8
      ∧ 8 ≤ ((ship.putLane 2 ⟨[], List.replicate 8 r, .sending b, List.replicate 8 b, []⟩).laneAt 2).busy.length
      ∧ crc16 [1, 0x2C, 9, 1, 8, 0, 0x82, 0x14, 0, 0, 0x9C, 0xB1, 0] = 0xDE95
      ∧ ([0, 0x82, 0x14, 0, 0, 0x9C, 0xB1, 0] : List Byte).length = kindLength .entry := by decide +kernel

/-- The worked frame in two pieces, a length byte of 12 with the bytes after it hunted through, and a reply completed
while a frame is partly received. -/
theorem test_witness_LaneFrames_pieces :
    let first : List Byte := [0xA5, 0x01, 0x2C, 9, 1, 8, 0]
    let second : List Byte := [0x82, 0x14, 0, 0, 0x9C, 0xB1, 0, 0xDE, 0x95]
    let held := ran (.requestFrame 1 first) ship
    let long := ran (.requestFrame 1 [0xA5, 0x01, 0x2C, 9, 1, 12, 0xA5, 7]) ship
    let busy := held.putLane 1 { held.laneAt 1 with transmitter := .sending ⟨5, 10, .balance, .busy, []⟩ }
    (held.laneAt 1).receiver = first ∧ (held.laneAt 1).queue = [] ∧ held.notice = ship.notice
      ∧ ran (.requestFrame 1 second) held = ran (.requestFrame 1 (first ++ second)) ship
      ∧ ((ran (.requestFrame 1 second) held).laneAt 1).queue.length = 1
      ∧ (ran (.requestFrame 1 [0xA5, 0x01, 0x2C, 9, 1, 11]) ship).notice.laneBits = 0
      ∧ (long.laneAt 1).receiver = [0xA5, 7] ∧ long.notice.laneBits = 2
      ∧ ((ran (.replyFrameComplete 1) busy).laneAt 1).receiver = first
      ∧ ((ran (.replyFrameComplete 1) busy).laneAt 1).transmitter = .idle := by decide +kernel

theorem test_witness_NoticeCommands : ship.SlotEmpty ∧ (0xFFFF : BitVec 16).getLsbD 11 = true := by decide

theorem test_witness_invariants :
    step ship = .next (ship.withClock { ship.clock with phase := 1 })
      ∧ step (ship.withPending [.qualifiedRelease 0]) = .next ship := ⟨rfl, rfl⟩

theorem test_witness_ClaimedModesStaySet :
    let s := (claiming .lockdown).withMode { (claiming .lockdown).mode with lockdown := true }
    (s.inputAt 0).enabled = true ∧ (s.inputAt 0).asserted = true ∧ (s.inputAt 0).role = .lockdown
      ∧ s.mode.lockdown = true ∧ (ran (.clearLockdown (cmd [])) s).mode.lockdown = true
      ∧ (Instr.clearLockdown (cmd [])).hostFrame.isSome = true
      ∧ (ran (.clearLockdown (cmd [])) (ship.withMode { ship.mode with lockdown := true })).mode.lockdown = false := by
  decide

theorem test_witness_FieldRequestsKeepLimits :
    ship.HoldsSound ∧ (tab.folioAt 9).isSome = true ∧ (tab.guestAt 5).isSome = true :=
  ⟨test_ship_holds_sound, by decide, by decide⟩

theorem test_witness_PresenceChangesOnlyAsListed :
    let t := ran (.setPresence (cmd (e16 1 ++ e8 2))) ship
    Table.wf ship.roster.guests ∧ (ship.guestAt 1).map Guest.presence = some .aboard
      ∧ (t.guestAt 1).map Guest.presence = some .ashore := by decide

/-! ### Witnesses for the refusals: states and operands that meet each test's failure, and the answer there -/

theorem test_witness_part_state_refusals :
    let ended : State := quay.withStore { quay.store with part := .inVoyage }
    let bare := quay.withStore { quay.store with deckMap := Vector.replicate 20 DeckSlot.empty }
    bare.store.part = .setup ∧ bare.store.cabinCount = 0
      ∧ answerOf (ran (.lockVoyage (cmd [])) bare) = some (.notFound, [])
      ∧ (∃ e ∈ ship.folio.folios, e.2.state ≠ .closed)
      ∧ answerOf (ran (.endVoyage (cmd [])) (ended.withRoster ship.roster)) = some (.aboard, [])
      ∧ (∃ e ∈ tab.hold.slots, e.2.activeHold ≠ none)
      ∧ answerOf (ran (.endVoyage (cmd [])) (ended.withHold tab.hold)) = some (.holdsPending, [])
      ∧ answerOf (ran (.endVoyage (cmd [])) (ended.withMode { ended.mode with muster := true })) = some (.mode, []) := by
  decide

theorem test_witness_deck_refusals :
    let deck : Nat → Nat → Nat → Nat → Instr := fun k d a n => .setDeck (cmd (e8 k ++ e16 d ++ e16 a ++ e16 n))
    let locked := quay.putOverride 1 (some ⟨0x08214, 253, .denyAll, true⟩)
    (cell quay.store.deckMap 1).count ≠ 0 ∧ (cell quay.store.deckMap 1).deck = 8
      ∧ answerOf (ran (deck 20 9 0 0) quay) = some (.range, [])
      ∧ answerOf (ran (deck 19 20 2 999) quay) = some (.range, [])
      ∧ answerOf (ran (deck 19 20 1 999) (quay.withRoster ship.roster)) = some (.notEmpty, [])
      ∧ answerOf (ran (deck 19 20 1 999) locked) = some (.locked, [])
      ∧ answerOf (ran (deck 19 8 1 999) quay) = some (.duplicate, [])
      ∧ answerOf (ran (deck 19 20 1 999) quay) = some (.capacity, [])
      ∧ answerOf (ran (.setLaneDecks (cmd (e16 3 ++ e16 0 ++ e16 20))) quay) = some (.range, []) := by decide

theorem test_witness_issue_refusals :
    let issue : Nat → Nat → Nat → Nat → Instr := fun serial cls guest first =>
      .issueCard (cmd (e32 serial ++ e8 0 ++ e8 cls ++ e16 guest ++ e16 1 ++ e16 20 ++ e16 first ++ e8 0 ++ e16 0))
    let four := ship.putGuest 1 { drinker none with cards := [40113, 988, 3, 4] }
    let full := ship.withCards { ship.cards with slots := (List.range 8).map (fun k =>
      (631 + k, .inUse ⟨50 + k, 0, .officer, .active, 0, none⟩)) }
    ship.guestAt 7 = none ∧ (ship.guestAt 6).map Guest.presence = some .departed ∧ ship.lookupCard 1975 ≠ none
      ∧ probeWindow 1024 1975 = (List.range 8).map (631 + ·) ∧ full.lookupCard 1975 = none
      ∧ answerOf (ran (issue 0 2 0 0) ship) = some (.range, [])
      ∧ answerOf (ran (issue 9 2 0 1000) ship) = some (.range, [])
      ∧ answerOf (ran (issue 9 0 7 0) ship) = some (.notFound, [])
      ∧ answerOf (ran (issue 9 0 6 0) ship) = some (.wrongState, [])
      ∧ answerOf (ran (issue 9 0 1 0) four) = some (.limit, [])
      ∧ answerOf (ran (issue 1975 2 0 0) ship) = some (.duplicate, [])
      ∧ answerOf (ran (issue 1975 2 0 0) full) = some (.crowded, []) := by decide

theorem test_witness_card_refusals :
    ship.lookupCard 9 = none ∧ answerOf (ran (.reissueCard (cmd (e32 9))) ship) = some (.notFound, [])
      ∧ answerOf (ran (.suspendCard (cmd (e32 9))) ship) = some (.notFound, [])
      ∧ answerOf (ran (.restoreCard (cmd (e32 9))) ship) = some (.notFound, [])
      ∧ answerOf (ran (.retireCard (cmd (e32 9))) ship) = some (.notFound, []) := by decide

/-- The ship with the six places of cabin 0 7 2 4 0 taken. -/
def packed : State := ship.putCabin 139 ⟨[2, 10, 11, 12, 13, 14], false, false, none⟩

theorem test_witness_enrol_refusals :
    let enrol : Nat → Nat → CabinCode → Nat → Nat → Instr := fun reference cabinMark code folioMark folio =>
      .enrolGuest (cmd (e32 reference ++ e8 cabinMark ++ eCode code ++ e8 folioMark ++ e16 folio ++ e8 0 ++ e8 2 ++ e8 0
        ++ e32 0 ++ e16 15 ++ e8 1))
    let full := ship.withStore { ship.store with caps := { ship.store.caps with guests := 3 } }
    (∀ k, k < 3 → full.guestAt k ≠ none) ∧ packed.store.decode 0x07240 = some (7, 139)
      ∧ (ship.folioAt 3).map Folio.state = some .closed
      ∧ answerOf (ran (enrol 9 0 0 1 64) ship) = some (.range, [])
      ∧ answerOf (ran (enrol 9 2 0 0 0) ship) = some (.range, [])
      ∧ answerOf (ran (enrol 9 1 0x0724A 0 0) ship) = some (.badCabin, [])
      ∧ answerOf (ran (enrol 51001 1 0x07240 1 3) packed) = some (.duplicate, [])
      ∧ answerOf (ran (enrol 9 1 0x07240 1 3) full) = some (.capacity, [])
      ∧ answerOf (ran (enrol 9 1 0x07240 1 3) packed) = some (.limit, [])
      ∧ answerOf (ran (enrol 9 1 0x07240 1 3) ship) = some (.folioState, []) := by decide

theorem test_witness_amend_refusals :
    let amend : Nat → Nat → Nat → Nat → CabinCode → Nat → Nat → Nat → Instr :=
      fun k m1 reference m2 code m3 folio m7 =>
        .amendGuest (cmd (e16 k ++ e8 m1 ++ e32 reference ++ e8 m2 ++ eCode code ++ e8 m3 ++ e16 folio ++ e8 2 ++ e8 9
          ++ e8 2 ++ e8 9 ++ e8 2 ++ e32 0 ++ e8 m7 ++ e16 15 ++ e8 2 ++ e8 9))
    let bound := ship.putGuest 5 { drinker none with held := 1 }
    ship.guestAt 7 = none ∧ (bound.guestAt 5).map Guest.held = some 1
      ∧ answerOf (ran (amend 7 0 0 2 0 2 0 2) ship) = some (.notFound, [])
      ∧ answerOf (ran (amend 5 0 9 2 0 2 0 2) ship) = some (.range, [])
      ∧ answerOf (ran (amend 5 2 9 2 0 1 64 2) ship) = some (.range, [])
      ∧ answerOf (ran (amend 5 1 51001 1 0x0724A 2 0 2) ship) = some (.badCabin, [])
      ∧ answerOf (ran (amend 5 1 51001 2 0 0 0 2) bound) = some (.duplicate, [])
      ∧ answerOf (ran (amend 5 2 9 1 0x07240 1 3 2) bound) = some (.holdsPending, [])
      ∧ answerOf (ran (amend 5 2 9 1 0x07240 1 3 2) packed) = some (.folioState, [])
      ∧ answerOf (ran (amend 5 2 9 1 0x07240 2 3 2) packed) = some (.limit, []) := by decide

theorem test_witness_guest_refusals :
    let bound := ship.putGuest 0 { drinker none with presence := .ashore, held := 1 }
    (ship.guestAt 1).map Guest.presence = some .aboard ∧ (bound.guestAt 0).map Guest.held = some 1
      ∧ answerOf (ran (.departGuest (cmd (e16 7))) ship) = some (.notFound, [])
      ∧ answerOf (ran (.departGuest (cmd (e16 1))) ship) = some (.aboard, [])
      ∧ answerOf (ran (.departGuest (cmd (e16 6))) ship) = some (.wrongState, [])
      ∧ answerOf (ran (.retireGuest (cmd (e16 64))) ship) = some (.notFound, [])
      ∧ answerOf (ran (.retireGuest (cmd (e16 1))) ship) = some (.aboard, [])
      ∧ answerOf (ran (.retireGuest (cmd (e16 0))) bound) = some (.holdsPending, [])
      ∧ answerOf (ran (.setPresence (cmd (e16 7 ++ e8 3))) ship) = some (.range, [])
      ∧ answerOf (ran (.setPresence (cmd (e16 7 ++ e8 2))) ship) = some (.notFound, [])
      ∧ answerOf (ran (.setPresence (cmd (e16 6 ++ e8 2))) ship) = some (.wrongState, []) := by decide

/-- The watches of DEPART_GUEST and RETIRE_GUEST: one that is armed for the ASHORE total 0, one that is not armed. -/
theorem test_witness_departure_watches :
    let s := ship.withTally { ship.tally with
      watches := #v[⟨.ashoreTotal, 0, 0, true⟩, ⟨.aboardTotal, 0, 7, false⟩] }
    let t := ran (.departGuest (cmd (e16 0))) s
    let u := ran (.retireGuest (cmd (e16 0))) s
    s.CompletionExact ∧ s.tally.ashore = 1 ∧ cell t.tally.watches 0 = ⟨.ashoreTotal, 0, 0, false⟩
      ∧ cell t.tally.watches 1 = ⟨.aboardTotal, 0, 7, false⟩ ∧ t.notice.flags = 0x81
      ∧ cell u.tally.watches 0 = ⟨.ashoreTotal, 0, 0, false⟩ ∧ u.notice.flags = 0x81 := by decide

theorem test_witness_cabin_refusals :
    insideWindow (some ⟨1320, 120⟩) 119 = true ∧ insideWindow (some ⟨1320, 120⟩) 120 = false
      ∧ insideWindow (some ⟨540, 1020⟩) 1020 = false ∧ insideWindow (some ⟨60, 60⟩) 0 = true
      ∧ answerOf (ran (.setCabin (cmd (eCode 0x08214 ++ e8 3 ++ e8 0 ++ e8 2 ++ e32 0))) ship) = some (.range, [])
      ∧ answerOf (ran (.setCabin (cmd (eCode 0x0821A ++ e8 0 ++ e8 0 ++ e8 1 ++ e16 1439 ++ e16 0))) ship)
        = some (.badCabin, [])
      ∧ answerOf (ran (.setOverride (cmd (e8 7 ++ eCode 0x08214 ++ e8 2 ++ e32 0 ++ e8 1))) ship) = some (.range, [])
      ∧ answerOf (ran (.setOverride (cmd (e8 7 ++ eCode 0x0821A ++ e8 0 ++ e32 0 ++ e8 1))) ship) = some (.badCabin, [])
      ∧ answerOf (ran (.clearOverride (cmd (e8 8))) ship) = some (.range, []) := by decide

theorem test_witness_entry_refusals :
    let ask : State → Nat → Option Reason := fun s serial => (replyOf 1 (ran (.entry 1) (knocking s serial 0))).map Prod.fst
    let naming : OverrideAction → State := fun a => ship.putOverride 2 (some ⟨0x08214, 253, a, true⟩)
    let room : Cabin → State := fun c => ship.putCabin 253 c
    ask (ship.withStore { ship.store with deckMap := Vector.replicate 20 DeckSlot.empty }) 40113 = some .badCabin
      ∧ ask (ship.withStore { ship.store with laneDecks := #v[none, some ⟨7, 7⟩, none, none] }) 40113 = some .wrongLane
      ∧ ask ship 9 = some .unknownCard ∧ ask ship 988 = some .cardSuspended
      ∧ ask (ship.withMode { ship.mode with lockdown := true }) 40113 = some .denyMode
      ∧ ask (naming .denyAll) 40113 = some .denyOverride ∧ ask (naming .serviceOnly) 40113 = some .denyOverride
      ∧ ask (naming .serviceOnly) 2962 = some .admitted ∧ ask (naming (.admitOne 7301)) 40113 = some .denyOverride
      ∧ ask (room ⟨[0, 1], false, true, none⟩) 40113 = some .denyOutOfOrder
      ∧ ask (room ⟨[0], false, false, none⟩) 40113 = some .notOccupant ∧ ask ship 7301 = some .denyClass
      ∧ ask (room ⟨[0, 1], true, false, none⟩) 2962 = some .denyPrivacy
      ∧ ask (room ⟨[0, 1], false, false, some ⟨601, 600⟩⟩) 2962 = some .denyWindow := by decide

theorem test_witness_privacy_refusals :
    let ask : CabinCode → Fin 4 → Option (Reason × List Byte) := fun c n =>
      replyOf n (ran (.privacy n) (asking ship n 300 .privacy (eCode c ++ e8 1)))
    ask 0x0821A 1 = some (.badCabin, []) ∧ cell ship.store.laneDecks 0 = some ⟨7, 7⟩
      ∧ ask 0x08214 0 = some (.wrongLane, [])
      ∧ ask 0x08214 2 = some (.wrongLane, []) ∧ ask 0x08215 1 = some (.ignored, []) := by decide

theorem test_witness_folio_refusals :
    let full := ship.withStore { ship.store with caps := { ship.store.caps with folios := 0 } }
    let rich := ship.putFolio 9 ⟨709, .frozen, 0, 99999999, 0, 1, []⟩
    let poor := ship.putFolio 9 ⟨709, .frozen, 0, -99999999, 0, 1, []⟩
    (ship.folioAt 3).map Folio.state = some .closed ∧ ship.folioAt 4 = none
      ∧ answerOf (ran (.openFolio (cmd (e32 0 ++ e32 0))) ship) = some (.range, [])
      ∧ answerOf (ran (.openFolio (cmd (e32 703 ++ e32 0))) ship) = some (.duplicate, [])
      ∧ answerOf (ran (.openFolio (cmd (e32 1 ++ e32 0))) full) = some (.capacity, [])
      ∧ answerOf (ran (.amendFolio (cmd (e16 4 ++ e8 0 ++ e32 0 ++ e8 0))) ship) = some (.range, [])
      ∧ answerOf (ran (.amendFolio (cmd (e16 4 ++ e8 2 ++ e32 0 ++ e8 0))) ship) = some (.notFound, [])
      ∧ answerOf (ran (.amendFolio (cmd (e16 3 ++ e8 2 ++ e32 0 ++ e8 0))) ship) = some (.folioState, [])
      ∧ answerOf (ran (.postPayment (cmd (e16 4 ++ e32 0))) ship) = some (.range, [])
      ∧ answerOf (ran (.postCharge (cmd (e16 4 ++ e32 1))) ship) = some (.notFound, [])
      ∧ answerOf (ran (.postCharge (cmd (e16 3 ++ e32 1))) ship) = some (.folioState, [])
      ∧ answerOf (ran (.postPayment (cmd (e16 9 ++ e32 1))) poor) = some (.range, [])
      ∧ answerOf (ran (.postCharge (cmd (e16 9 ++ e32 1))) rich) = some (.range, []) := by decide

theorem test_witness_settle_refusals :
    let held := ship.putFolio 9 ⟨709, .opened, 0, 0, 0, 1, [3]⟩
    answerOf (ran (.settleFolio (cmd (e16 4))) ship) = some (.notFound, [])
      ∧ answerOf (ran (.settleFolio (cmd (e16 3))) ship) = some (.folioState, [])
      ∧ answerOf (ran (.settleFolio (cmd (e16 9))) held) = some (.holdsPending, [])
      ∧ answerOf (ran (.settleFolio (cmd (e16 9))) ship) = some (.balance, [])
      ∧ answerOf (ran (.releaseFolioHolds (cmd (e16 4))) ship) = some (.notFound, []) := by decide

/-- The tests of CHARGE and AUTHORISE, each where the ones before it pass. -/
theorem test_witness_sale_refusals :
    let ask : State → Nat → Nat → Nat → Nat → Option Reason := fun s serial issue amount category =>
      (replyOf 2 (ran (.charge 2)
        (asking s 2 100 .charge (e32 serial ++ e8 issue ++ e32 amount ++ e8 0 ++ e8 category)))).map Prod.fst
    let guest : Guest → State := fun g => ship.putGuest 5 g
    ask (ship.withField { ship.field with posts := [] }) 1975 2 300 1 = some .denyPost
      ∧ ask (ship.putOutlet 30 Outlet.cold) 1975 2 300 1 = some .denyOutletClosed
      ∧ ask (ship.withMode { ship.mode with charging := true }) 1975 2 300 1 = some .denyMode
      ∧ ask ship 1975 1 300 1 = some .staleIssue ∧ ask ship 90001 255 300 1 = some .denyClass
      ∧ ask (guest { drinker none with presence := .departed }) 1975 2 300 1 = some .denyDeparted
      ∧ ask (guest { drinker none with mayCharge := false }) 1975 2 300 1 = some .denyChargePrivilege
      ∧ ask (guest { drinker none with folio := none }) 1975 2 300 1 = some .noFolio
      ∧ ask (guest { drinker none with folio := some 3 }) 1975 2 300 1 = some .denyFolio
      ∧ ask ship 1975 2 0 1 = some .badAmount
      ∧ ask (guest { drinker none with band := .youth }) 1975 2 300 1 = some .denyAge := by decide

/-- Tests 12 and 13 of AUTHORISE take the hold amount: a total of 2,100 is the whole day allowance and its hold is above
it; a total of 35,400 is within the 40,000 available and its hold is not. -/
theorem test_witness_authorise_limits :
    holdAmount 2100 150 = 2415 ∧ 2900 + 0 + 2100 ≤ 5000 ∧ 5000 < 2900 + 0 + 2415
      ∧ (replyOf 2 (ran (.authorise 2) (selling ship .authorise 1780))).map Prod.fst = some .denyDayLimit
      ∧ holdAmount 35400 150 = 40710 ∧ (10000 : Int) + 0 + 35400 ≤ 50000 ∧ (50000 : Int) < 10000 + 0 + 40710
      ∧ (replyOf 2 (ran (.authorise 2) (selling (ship.putGuest 5 (drinker none)) .authorise 30000))).map Prod.fst
        = some .denyCredit := by decide

theorem test_witness_balance_refusals :
    let ask : State → Nat → Nat → Option Reason := fun s serial issue =>
      (replyOf 2 (ran (.balance 2) (asking s 2 100 .balance (e32 serial ++ e8 issue)))).map Prod.fst
    ask (ship.withField { ship.field with posts := [] }) 1975 2 = some .denyPost ∧ ask ship 9 0 = some .unknownCard
      ∧ ask ship 2962 0 = some .denyClass
      ∧ ask (ship.putGuest 5 { drinker none with folio := none }) 1975 2 = some .noFolio
      ∧ ask (ship.putFolio 9 ⟨709, .frozen, 0, 0, 0, 1, []⟩) 1975 2 = some .denyFolio := by decide

theorem test_witness_void_without_till :
    (asking tab 2 40 .void [3, 5]).postAt 2 40 = some (3, ⟨2, 40, .musterReader 2⟩)
      ∧ replyOf 2 (ran (.void 2) (asking tab 2 40 .void [3, 5])) = some (.denyPost, []) := by decide

theorem test_witness_gate_refusals :
    let ask : State → BitVec 10 → Nat → Option Reason := fun s terminal serial =>
      (replyOf 3 (ran (.gate 3) (boarding s terminal serial 0))).map Prod.fst
    let gone := ship.putGuest 1 { drinker none with presence := .departed }
    ship.postAt 3 22 = none ∧ ask ship 22 40113 = some .denyPost
      ∧ ask (ship.withMode { ship.mode with lockdown := true }) 21 40113 = some .denyMode
      ∧ ask ship 21 988 = some .cardSuspended ∧ ask ship 21 2962 = some .denyClass
      ∧ ask gone 21 40113 = some .denyDeparted := by
  decide

theorem test_witness_muster_refusals :
    let ask : State → BitVec 10 → Nat → Option Reason := fun s terminal serial =>
      (replyOf 2 (ran (.muster 2) (asking s 2 terminal .muster (e32 serial ++ e8 0)))).map Prod.fst
    ask alarm 100 40112 = some .denyPost ∧ ask ship 41 40112 = some .denyMode ∧ ask alarm 41 988 = some .cardSuspended
      ∧ ask alarm 41 2962 = some .denyClass
      ∧ ask (alarm.putGuest 0 { drinker none with presence := .departed }) 41 40112 = some .denyDeparted := by decide

theorem test_witness_setting_refusals :
    answerOf (ran (.setGangway (cmd (e16 8 ++ e8 0 ++ e8 2 ++ e16 0))) ship) = some (.range, [])
      ∧ answerOf (ran (.setTallyWatch (cmd (e8 1 ++ e8 1 ++ e8 5 ++ e16 15 ++ e16 0))) ship) = some (.range, [])
      ∧ answerOf (ran (.setAlarmInput (cmd [3, 1, 1, 4])) quay) = some (.range, [])
      ∧ answerOf (ran (.setRolloverMinute (cmd (e16 1440))) ship) = some (.range, [])
      ∧ answerOf (ran (.shiftLocalTime (cmd (e16 181))) ship) = some (.range, [])
      ∧ answerOf (ran (.setNotices (cmd [0, 0, 1, 1, 2])) ship) = some (.range, [])
      ∧ answerOf (ran (.setCurrency (cmd (e8 8 ++ e8 0 ++ e8 0 ++ e32 0 ++ e8 0))) ship) = some (.range, [])
      ∧ answerOf (ran (.setOutlet (cmd (e16 64 ++ e8 2 ++ e8 0 ++ e8 2 ++ e8 0 ++ e8 2 ++ e16 0 ++ e8 2 ++ e8 0 ++ e8 2
        ++ e8 0 ++ e8 0))) ship) = some (.range, []) := by decide

theorem test_witness_post_refusals :
    let full := quay.withField { quay.field with posts := (List.range 256).map (fun k => (k, ⟨0, BitVec.ofNat 10 k, .till 0⟩)) }
    let add : Nat → Nat → Nat → Instr := fun lane address outlet =>
      .addPost (cmd (e16 lane ++ e16 address ++ e8 0 ++ e16 outlet ++ e16 9 ++ e8 9 ++ e16 99))
    answerOf (ran (add 3 1024 63) quay) = some (.range, []) ∧ answerOf (ran (add 3 1023 64) quay) = some (.range, [])
      ∧ full.SlotEmpty ∧ full.store.part = .setup ∧ answerOf (ran (add 3 1023 63) full) = some (.capacity, [])
      ∧ answerOf (ran (.removePost (cmd (e16 4 ++ e16 0))) quay) = some (.range, []) := by decide +kernel

theorem test_witness_read_refusals :
    ship.lookupCard 9 = none ∧ (ship.cardSlotAt 634, ship.cardSlotAt 0) = (some .retired, none)
      ∧ (answerOf (ran (.readCard (cmd (e8 1 ++ e32 9))) ship)).map Prod.fst = some .notFound
      ∧ answerOf (ran (.readCard (cmd (e8 0 ++ e32 634))) ship) = some (.done, [2] ++ e16 8 ++ e16 1 ++ e16 1015)
      ∧ answerOf (ran (.readCard (cmd (e8 0 ++ e32 1024))) ship) = some (.range, [])
      ∧ answerOf (ran (.lookupGuest (cmd (e32 0))) ship) = some (.range, [])
      ∧ answerOf (ran (.lookupGuest (cmd (e32 9))) ship) = some (.notFound, [])
      ∧ answerOf (ran (.readGuest (cmd (e16 7))) ship) = some (.notFound, []) := by decide

theorem test_witness_read_ranges :
    answerOf (ran (.findGuests (cmd (e16 65 ++ [0, 0] ++ [0, 0, 0] ++ [0, 0, 0, 0] ++ [0, 0, 0]))) ship) = some (.range, [])
      ∧ answerOf (ran (.findGuests (cmd (e16 0 ++ [0, 0] ++ [0, 0, 0] ++ [1, 0, 0, 0] ++ [0, 0, 0]))) ship) = some (.badCabin, [])
      ∧ answerOf (ran (.readCabin (cmd (e8 0 ++ e32 290))) ship) = some (.range, [])
      ∧ answerOf (ran (.readCabin (cmd (e8 1 ++ e32 0x0821A))) ship) = some (.badCabin, [])
      ∧ answerOf (ran (.readFolio (cmd (e8 0 ++ e32 64))) ship) = some (.notFound, [])
      ∧ answerOf (ran (.readFolio (cmd (e8 1 ++ e32 1))) ship) = some (.notFound, [])
      ∧ answerOf (ran (.readOutlet (cmd (e16 64))) ship) = some (.range, [])
      ∧ answerOf (ran (.readPosts (cmd (e16 257))) ship) = some (.range, []) := by decide

/-- FIND_GUESTS with two criteria, READ_CABIN by code and READ_FOLIO by number. -/
theorem test_witness_reads_by_key :
    ship.store.decode 0x08214 = some (8, 253)
      ∧ (answerOf (ran (.findGuests (cmd (e16 1 ++ [1, 1] ++ [0, 0, 0] ++ [1] ++ eCode 0x08214 ++ [0, 0, 0]))) ship)).map
        (fun a => a.2.take 5) = some (e16 1 ++ e16 1 ++ [0])
      ∧ (answerOf (ran (.readCabin (cmd (e8 1 ++ e32 0x08214))) ship)).map (fun a => a.2.take 9)
        = some (e16 253 ++ eCode 0x08214 ++ e16 8 ++ e16 214)
      ∧ (answerOf (ran (.readFolio (cmd (e8 1 ++ e32 709))) ship)).map (fun a => a.2.take 7) = some (e16 9 ++ e32 709 ++ [1]) := by
  decide

end Sys2Proof.Tests
end

section
/-! What the success of a computation with refusals says of its value, and the rule by which a property of the state
passes from a command's body to the command. -/

namespace Sys2Proof.Machine

variable {ε α β : Type}

/-- The value of a computation, when it succeeds, meets `Q`. -/
def Yields (x : Except ε α) (Q : α → Prop) : Prop := ∀ a, x = .ok a → Q a

@[simp] theorem yields_ok {a : α} {Q : α → Prop} : Yields (.ok a : Except ε α) Q ↔ Q a := by
  simp [Yields]

@[simp] theorem yields_pure {a : α} {Q : α → Prop} : Yields (pure a : Except ε α) Q ↔ Q a := yields_ok

@[simp] theorem yields_error {e : ε} {Q : α → Prop} : Yields (.error e : Except ε α) Q := by
  simp [Yields]

@[simp] theorem yields_bind {x : Except ε α} {f : α → Except ε β} {Q : β → Prop} :
    Yields (x >>= f) Q ↔ Yields x (fun a => Yields (f a) Q) := by
  cases x <;> simp

@[simp] theorem yields_map {x : Except ε α} {f : α → β} {Q : β → Prop} :
    Yields (x.map f) Q ↔ Yields x (fun a => Q (f a)) := by
  cases x <;> simp [Except.map]

@[simp] theorem yields_fmap {x : Except ε α} {f : α → β} {Q : β → Prop} :
    Yields (f <$> x) Q ↔ Yields x (fun a => Q (f a)) := by
  cases x <;> simp

@[simp] theorem yields_trivial {x : Except ε α} : Yields x (fun _ => True) := fun _ _ => trivial

@[simp] theorem yields_ite {p : Prop} [Decidable p] {x y : Except ε α} {Q : α → Prop} :
    Yields (if p then x else y) Q ↔ (p → Yields x Q) ∧ (¬ p → Yields y Q) := by
  split <;> simp_all

@[simp] theorem yields_check {p : Prop} [Decidable p] {r : Result} {Q : Unit → Prop} :
    Yields (check p r) Q ↔ (p → Q ()) := by
  simp [check]

@[simp] theorem yields_need {x : Option α} {r : Result} {Q : α → Prop} :
    Yields (need x r) Q ↔ ∀ a, x = some a → Q a := by
  cases x <;> simp

@[simp] theorem yields_test {p : Prop} [Decidable p] {r : Reason} {Q : Unit → Prop} :
    Yields (test p r) Q ↔ (p → Q ()) := by
  simp [test]

@[simp] theorem yields_demand {x : Option α} {r : Reason} {Q : α → Prop} :
    Yields (demand x r) Q ↔ ∀ a, x = some a → Q a := by
  cases x <;> simp

theorem Yields.mono {x : Except ε α} {Q R : α → Prop} (h : Yields x Q) (hQR : ∀ a, Q a → R a) : Yields x R :=
  fun a ha => hQR a (h a ha)

/-- A decision's refusals leave the state as it was. -/
theorem decided_keeps {P : State → Prop} {s : State} {d : Decision Decided} (hs : P s)
    (hd : Yields d (fun x => P x.state)) : P (decided s d).state := by
  cases d with
  | error e => exact hs
  | ok x => exact hd x rfl

/-- A property that the link, the notices and the counter of free values have no part in. -/
def LinkFree (P : State → Prop) : Prop :=
  ∀ (s : State) (link : Link) (notice : NoticeUnit) (draws : Nat),
    P s → P { s with link := link, notice := notice, draws := draws }

/-- A body may count on the part state that admits its command's class (R2). -/
theorem admitted_of_frameTests {c : Command} {f : HostFrame} {s : State} (h : frameTests c f s = .ok ()) :
    c.cls.refusal s.store.part = none := by
  have : Yields (frameTests c f s) (fun _ => c.cls.refusal s.store.part = none) := by
    simp only [frameTests, yields_bind, yields_check]
    intro _ _
    split <;> simp_all
  exact this () h

/-- What a body keeps, its command keeps. -/
theorem hostCommand_keeps {P : State → Prop} (hP : LinkFree P) {c : Command} {f : HostFrame}
    {body : List Byte → State → Verdict (State × List Byte)} {s : State} (hs : P s)
    (hb : c.cls.refusal s.store.part = none → Yields (body f.payload s) (fun x => P x.1)) :
    P (hostCommand c f body s) := by
  rcases hostCommand_cases c f body s with ⟨-, h⟩ | ⟨-, r, d, -, h⟩ | ⟨-, t, d, ht, hx, h⟩ <;> rw [h]
  · exact hP s _ _ _ hs
  · exact hP s _ _ _ hs
  · exact hP t _ _ _ (hb (admitted_of_frameTests ht) _ hx)

/-- The same for the two commands that start a scrub. -/
theorem scrubCommand_keeps {P : State → Prop} (hP : LinkFree P) {c : Command} {f : HostFrame}
    {body : List Byte → State → Verdict (State × List Byte)} {s : State} (hs : P s)
    (hb : c.cls.refusal s.store.part = none → Yields (body f.payload s) (fun x => P x.1)) :
    P (scrubCommand c f body s) := by
  rcases scrubCommand_cases c f body s with ⟨-, h⟩ | ⟨-, r, d, -, h⟩ | ⟨-, t, d, ht, hx, h⟩ <;> rw [h]
  · exact hP s _ _ _ hs
  · exact hP s _ _ _ hs
  · exact hP t _ _ _ (hb (admitted_of_frameTests ht) _ hx)

/-- A property that the lanes have no part in passes from a decision to its take. -/
theorem takeRequest_keeps {P : State → Prop} (hP : ∀ (t : State) (n : Fin 4) (l : Lane), P t → P (t.putLane n l))
    {k : RequestKind} {n : Fin 4} {decide : Request → State → Decided} {s : State} (hs : P s)
    (hd : ∀ r, P (decide r s).state) : P (takeRequest k n decide s) := by
  rcases takeRequest_cases k n decide s with h | ⟨r, rest, -, -, h⟩ <;> rw [h]
  · exact hs
  · exact hP _ _ _ (hd r)

end Sys2Proof.Machine
end

section
/-! The deck map (R12) and the cabin codes (R14): the runs of the slots follow each other, a code and its digits spell
each other, and so a decoded index lies below the cabin count and a listed index has one code. -/

namespace Sys2Proof.Machine

/-! ### Searches over the places of a vector -/

theorem firstFin_some {n : Nat} {p : Fin n → Bool} {k : Fin n} (h : firstFin n p = some k) : p k = true :=
  List.find?_some h

/-- A test that one place alone meets finds that place. -/
theorem firstFin_of_unique {n : Nat} {p : Fin n → Bool} {k : Fin n} (hk : p k = true) (hu : ∀ m, p m = true → m = k) :
    firstFin n p = some k := by
  cases h : firstFin n p with
  | some m => rw [hu m (firstFin_some h)]
  | none => exact absurd hk (List.find?_eq_none.1 h k (List.mem_finRange k))

theorem toList_eq_map_cell {α : Type} {n : Nat} (v : Vector α n) : v.toList = (List.finRange n).map (cell v) := by
  apply List.ext_getElem <;> simp [cell]

/-! ### The runs of a list of counts -/

/-- A run of a list of counts ends where the runs after it begin. -/
theorem sum_take_add_getElem_le {l : List Nat} {k m : Nat} (hk : k < l.length) (h : k < m) :
    (l.take k).sum + l[k] ≤ (l.take m).sum := by
  rw [← List.sum_take_succ l k hk]
  exact (List.take_sublist_take_left (by omega)).sum_le_sum fun _ _ => Nat.zero_le _

/-- A number below the sum of a list of counts lies in one of its runs. -/
theorem exists_run_of_lt_sum (l : List Nat) (i : Nat) (h : i < l.sum) :
    ∃ (k : Nat) (hk : k < l.length), (l.take k).sum ≤ i ∧ i < (l.take k).sum + l[k] := by
  induction l generalizing i with
  | nil => simp at h
  | cons c l ih =>
    by_cases hc : i < c
    · exact ⟨0, by simp, by simp, by simpa using hc⟩
    · rw [List.sum_cons] at h
      obtain ⟨k, hk, h1, h2⟩ := ih (i - c) (by omega)
      refine ⟨k + 1, by simpa using hk, ?_, ?_⟩ <;>
        simp only [List.take_succ_cons, List.sum_cons, List.getElem_cons_succ] <;> omega

namespace Store

variable {st : Store}

theorem counts_eq (st : Store) : st.counts = (List.finRange 20).map (fun m => (cell st.deckMap m).count) := by
  simp [counts, toList_eq_map_cell, Function.comp_def]

theorem length_counts (st : Store) : st.counts.length = 20 := by simp [counts_eq]

theorem getElem_counts (st : Store) (k : Fin 20) :
    st.counts[k.val]'(by rw [length_counts]; exact k.isLt) = (cell st.deckMap k).count := by
  simp [counts_eq]

theorem cabinCount_eq (st : Store) :
    st.cabinCount = ((List.finRange 20).map (fun m => (cell st.deckMap m).count)).sum :=
  congrArg List.sum st.counts_eq

/-- The base index of a slot sums the counts of the slots below it. -/
theorem base_eq (st : Store) (k : Fin 20) :
    st.base k.val = (((List.finRange 20).filter (fun m => m < k)).map (fun m => (cell st.deckMap m).count)).sum := by
  have below : ∀ k : Fin 20, (List.finRange 20).filter (fun m => m < k) = (List.finRange 20).take k.val := by decide
  rw [below, base, counts_eq, ← List.map_take]

/-- The run of a slot ends at or before the base of every later slot. -/
theorem base_add_count_le_base {k m : Fin 20} (h : k < m) :
    st.base k.val + (cell st.deckMap k).count ≤ st.base m.val := by
  rw [← getElem_counts]
  exact sum_take_add_getElem_le _ h

theorem base_add_count_le (st : Store) (k : Fin 20) : st.base k.val + (cell st.deckMap k).count ≤ st.cabinCount := by
  have hk : k.val < st.counts.length := by rw [length_counts]; exact k.isLt
  have := sum_take_add_getElem_le hk hk
  rwa [List.take_length, getElem_counts] at this

/-- A cabin index lies in the run of a slot. -/
abbrev InRun (st : Store) (k : Fin 20) (i : Nat) : Prop :=
  st.base k.val ≤ i ∧ i < st.base k.val + (cell st.deckMap k).count

/-- The runs of two slots do not meet. -/
theorem InRun.unique {k m : Fin 20} {i : Nat} (hk : st.InRun k i) (hm : st.InRun m i) : m = k := by
  rcases lt_trichotomy m k with h | h | h
  · have := base_add_count_le_base (st := st) h; omega
  · exact h
  · have := base_add_count_le_base (st := st) h; omega

theorem exists_inRun {i : Nat} (h : i < st.cabinCount) : ∃ k, st.InRun k i := by
  obtain ⟨k, hk, h1, h2⟩ := exists_run_of_lt_sum st.counts i h
  have hk20 : k < 20 := by rwa [length_counts] at hk
  refine ⟨⟨k, hk20⟩, h1, ?_⟩
  rwa [← getElem_counts]

/-- The deck and room of a cabin index, read off the slot whose run holds it (R12). -/
theorem deckRoom_of_inRun {k : Fin 20} {i : Nat} (h : st.InRun k i) :
    st.deckRoom i = some ((cell st.deckMap k).deck, i - st.base k.val + (cell st.deckMap k).first) := by
  have hf : firstFin 20 (fun m => st.base m.val ≤ i ∧ i < st.base m.val + (cell st.deckMap m).count) = some k :=
    firstFin_of_unique (by simpa using h) fun m hm => h.unique (by simpa using hm)
  rw [deckRoom, hf]; rfl

end Store

/-! ### Digits -/

theorem codeDigit_eq (c : CabinCode) (k : Nat) : codeDigit c k = c.toNat / 16 ^ k % 16 := by
  rw [codeDigit, BitVec.toNat_ushiftRight, Nat.shiftRight_eq_div_pow, pow_mul]; rfl

/-- A code's number in its digits. -/
theorem toNat_eq_digits (c : CabinCode) :
    c.toNat = codeDigit c 4 * 65536 + codeDigit c 3 * 4096 + codeDigit c 2 * 256 + codeDigit c 1 * 16
      + codeDigit c 0 := by
  have := c.isLt
  simp only [codeDigit_eq, Nat.reducePow]
  omega

/-- The number of the code of a deck and room given by their digits. -/
theorem toNat_codeOf {a b c d e : Nat} (ha : a ≤ 9) (hb : b ≤ 9) (hc : c ≤ 9) (hd : d ≤ 9) (he : e ≤ 9) :
    (codeOf (10 * a + b) (100 * c + 10 * d + e)).toNat = a * 65536 + b * 4096 + c * 256 + d * 16 + e := by
  have h1 : (10 * a + b) / 10 % 10 = a := by omega
  have h2 : (10 * a + b) % 10 = b := by omega
  have h3 : (100 * c + 10 * d + e) / 100 % 10 = c := by omega
  have h4 : (100 * c + 10 * d + e) / 10 % 10 = d := by omega
  have h5 : (100 * c + 10 * d + e) % 10 = e := by omega
  simp only [codeOf, BitVec.toNat_ofNat, h1, h2, h3, h4, h5]
  omega

/-- A code that spells a deck and room is their code. -/
theorem codeOf_codeDeckRoom {c : CabinCode} {deck room : Nat} (h : codeDeckRoom c = some (deck, room)) :
    codeOf deck room = c := by
  simp only [codeDeckRoom, Option.ite_none_right_eq_some, Option.some.injEq, Prod.mk.injEq] at h
  obtain ⟨⟨h0, h1, h2, h3, h4⟩, rfl, rfl⟩ := h
  exact BitVec.eq_of_toNat_eq (by rw [toNat_codeOf h4 h3 h2 h1 h0, ← toNat_eq_digits])

/-- The code of a deck and room spells them. -/
theorem codeDeckRoom_codeOf {deck room : Nat} (hd : deck < 100) (hr : room < 1000) :
    codeDeckRoom (codeOf deck room) = some (deck, room) := by
  obtain ⟨a, b, ha, hb, rfl⟩ : ∃ a b, a ≤ 9 ∧ b ≤ 9 ∧ deck = 10 * a + b :=
    ⟨deck / 10, deck % 10, by omega, by omega, by omega⟩
  obtain ⟨c, d, e, hc, hd, he, rfl⟩ : ∃ c d e, c ≤ 9 ∧ d ≤ 9 ∧ e ≤ 9 ∧ room = 100 * c + 10 * d + e :=
    ⟨room / 100, room / 10 % 10, room % 10, by omega, by omega, by omega, by omega⟩
  simp only [codeDeckRoom, codeDigit_eq, toNat_codeOf ha hb hc hd he, Nat.reducePow, Option.ite_none_right_eq_some,
    Option.some.injEq, Prod.mk.injEq]
  omega

/-- A code spells a deck and room exactly when its five digits are 0 to 9 and are theirs (steps 1 to 3 of R14). -/
theorem codeDeckRoom_eq_some {c : CabinCode} {deck room : Nat} :
    codeDeckRoom c = some (deck, room) ↔ (∀ k, k < 5 → codeDigit c k ≤ 9)
      ∧ deck = 10 * codeDigit c 4 + codeDigit c 3
      ∧ room = 100 * codeDigit c 2 + 10 * codeDigit c 1 + codeDigit c 0 := by
  simp only [codeDeckRoom, Option.ite_none_right_eq_some, Option.some.injEq, Prod.mk.injEq, eq_comm (b := deck),
    eq_comm (b := room)]
  refine and_congr_left fun _ => ⟨fun h k hk => ?_, fun h => ⟨h 0 ?_, h 1 ?_, h 2 ?_, h 3 ?_, h 4 ?_⟩⟩
  · interval_cases k <;> simp [h]
  all_goals omega

/-! ### Decoding -/

namespace Store

variable {st : Store}

/-- The slot that a code decodes through: non-empty, of the code's deck, its run holding the code's room (R14). -/
abbrev Holds (st : Store) (k : Fin 20) (deck room : Nat) : Prop :=
  (cell st.deckMap k).count ≠ 0 ∧ (cell st.deckMap k).deck = deck ∧ (cell st.deckMap k).first ≤ room
    ∧ room < (cell st.deckMap k).first + (cell st.deckMap k).count

/-- What a successful decode has found, whatever the deck map. -/
theorem decode_some {c : CabinCode} {deck i : Nat} (h : st.decode c = some (deck, i)) :
    ∃ room k, codeDeckRoom c = some (deck, room) ∧ st.Holds k deck room
      ∧ i = st.base k.val + (room - (cell st.deckMap k).first) := by
  unfold decode at h
  split at h
  · simp at h
  · rename_i d room hc
    split at h
    · simp at h
    · rename_i k hk
      have := firstFin_some hk
      simp only [Option.ite_none_right_eq_some, Option.some.injEq, Prod.mk.injEq] at h
      simp only [Bool.and_eq_true, bne_iff_ne, beq_iff_eq] at this
      obtain ⟨⟨h1, h2⟩, rfl, rfl⟩ := h
      exact ⟨room, k, hc, ⟨this.1, this.2, h1, h2⟩, rfl⟩

/-- On a sound deck map one slot alone holds a deck, so a decode finds it. -/
theorem decode_of_holds (hs : st.DeckMapSound) {c : CabinCode} {deck room : Nat} {k : Fin 20}
    (hc : codeDeckRoom c = some (deck, room)) (hk : st.Holds k deck room) :
    st.decode c = some (deck, st.base k.val + (room - (cell st.deckMap k).first)) := by
  obtain ⟨hn, hd, hlo, hhi⟩ := hk
  have hf : firstFin 20 (fun m => (cell st.deckMap m).count != 0 && (cell st.deckMap m).deck == deck) = some k := by
    refine firstFin_of_unique (by simp [hn, hd]) fun m hm => ?_
    simp only [Bool.and_eq_true, bne_iff_ne, beq_iff_eq] at hm
    by_contra hne
    exact (hs k hn).2.2.2 m hne hm.1 (hm.2.trans hd.symm)
  simp [decode, hc, hf, hlo, hhi]

theorem decode_lt {c : CabinCode} {deck i : Nat} (h : st.decode c = some (deck, i)) : i < st.cabinCount := by
  obtain ⟨room, k, -, ⟨-, -, h1, h2⟩, rfl⟩ := decode_some h
  have := st.base_add_count_le k
  omega

theorem cabinIndex_lt {c : CabinCode} {i : Nat} (h : st.cabinIndex c = some i) : i < st.cabinCount := by
  obtain ⟨⟨deck, j⟩, hd, rfl⟩ := Option.map_eq_some_iff.1 h
  exact decode_lt hd

/-- The code of a cabin index decodes to the deck of its slot and to the index. -/
theorem decode_codeOfIndex (hs : st.DeckMapSound) {k : Fin 20} {i : Nat} (h : st.InRun k i) :
    st.decode (st.codeOfIndex i) = some ((cell st.deckMap k).deck, i) := by
  have hn : (cell st.deckMap k).count ≠ 0 := by obtain ⟨h1, h2⟩ := h; omega
  obtain ⟨-, hd, hr, -⟩ := hs k hn
  have hc : codeDeckRoom (st.codeOfIndex i)
      = some ((cell st.deckMap k).deck, i - st.base k.val + (cell st.deckMap k).first) := by
    simp only [codeOfIndex, deckRoom_of_inRun h]
    exact codeDeckRoom_codeOf (by omega) (by omega)
  rw [decode_of_holds hs hc ⟨hn, rfl, by omega, by omega⟩]
  simp only [Option.some.injEq, Prod.mk.injEq, true_and]
  omega

/-- A decoded code is the code of its index. -/
theorem codeOfIndex_of_decode {c : CabinCode} {deck i : Nat} (h : st.decode c = some (deck, i)) :
    st.codeOfIndex i = c ∧ ∃ room, st.deckRoom i = some (deck, room) := by
  obtain ⟨room, k, hc, ⟨-, rfl, h1, h2⟩, rfl⟩ := decode_some h
  have hrun : st.InRun k (st.base k.val + (room - (cell st.deckMap k).first)) := by constructor <;> omega
  have hroom : st.base k.val + (room - (cell st.deckMap k).first) - st.base k.val + (cell st.deckMap k).first
      = room := by omega
  have hd := deckRoom_of_inRun hrun
  rw [hroom] at hd
  refine ⟨?_, room, hd⟩
  simp only [codeOfIndex, hd]
  exact codeOf_codeDeckRoom hc

end Store

/-- Settles O18: both directions go through the one slot whose run holds the index, or the room. -/
theorem cabinCodesNameIndices : Obligations.CabinCodesNameIndices := by
  intro st hs
  refine ⟨fun i hi => ?_, fun c deck i h => ⟨Store.decode_lt h, Store.codeOfIndex_of_decode h⟩,
    fun c k hk h9 => ?_, st.cabinCount_eq, fun c deck i => ?_⟩
  · obtain ⟨k, hk⟩ := Store.exists_inRun hi
    exact ⟨_, _, Store.deckRoom_of_inRun hk, Store.decode_codeOfIndex hs hk⟩
  · cases hd : st.decode c with
    | none => rfl
    | some x =>
      obtain ⟨room, m, hc, -⟩ := Store.decode_some (deck := x.1) (i := x.2) hd
      have := (codeDeckRoom_eq_some.1 hc).1 k hk
      unfold codeDigit at this
      omega
  · intro digit room
    constructor
    · intro h
      obtain ⟨r, k, hc, ⟨hn, hd, h1, h2⟩, hi⟩ := Store.decode_some h
      obtain ⟨h9, hdeck, rfl⟩ := codeDeckRoom_eq_some.1 hc
      exact ⟨h9, hdeck, k, hn, hd, h1, h2, by rw [← st.base_eq]; exact hi⟩
    · rintro ⟨h9, hdeck, k, hn, hd, h1, h2, rfl⟩
      rw [← st.base_eq]
      exact Store.decode_of_holds hs (codeDeckRoom_eq_some.2 ⟨h9, hdeck, rfl⟩) ⟨hn, hd, h1, h2⟩

end Sys2Proof.Machine
end

section
/-! The partition (R5): each grant is the greatest capacity that its table, its request and the units left allow. -/

namespace Sys2Proof.Machine

/-- In a falling list the first entry that meets a test is the greatest that does. -/
theorem find?_eq_some_iff_isGreatest {l : List Nat} (h : l.Pairwise (· > ·)) (p : Nat → Bool) (a : Nat) :
    l.find? p = some a ↔ IsGreatest {n | n ∈ l ∧ p n = true} a := by
  have first : ∀ a, l.find? p = some a → IsGreatest {n | n ∈ l ∧ p n = true} a := by
    intro a ha
    refine ⟨⟨List.mem_of_find?_eq_some ha, List.find?_some ha⟩, fun n hn => ?_⟩
    obtain ⟨-, u, v, rfl, hu⟩ := List.find?_eq_some_iff_append.1 ha
    rcases List.mem_append.1 hn.1 with hm | hm
    · have := hu n hm
      simp [hn.2] at this
    · rcases List.mem_cons.1 hm with rfl | hm
      · exact Nat.le_refl n
      · exact Nat.le_of_lt ((List.pairwise_cons.1 (List.pairwise_append.1 h).2.1).1 n hm)
  refine ⟨first a, fun ha => ?_⟩
  cases hf : l.find? p with
  | none => exact absurd ha.1.2 (List.find?_eq_none.1 hf a ha.1.1)
  | some b => rw [(first b hf).unique ha]

/-- The capacities of cabins, guests or folios that a request may be granted of the units left. -/
abbrev mayGrant64 (request most per left : Nat) : Set Nat :=
  {n | n % 64 = 0 ∧ 64 ≤ n ∧ n ≤ most ∧ n < max request 1 + 64 ∧ per * n ≤ left}

/-- The card capacities that a request may be granted of the units left. -/
abbrev mayGrantCards (request left : Nat) : Set Nat :=
  {n | n ∈ [1024, 2048, 4096, 8192, 16384] ∧ (n = 1024 ∨ n < 2 * request) ∧ n ≤ left}

/-- The greatest multiple of 64 from 64 up to a multiple of 64. -/
theorem isGreatest_multiple {m g : Nat} (hm : m % 64 = 0) :
    IsGreatest {n | n % 64 = 0 ∧ 64 ≤ n ∧ n ≤ m} g ↔ 64 ≤ m ∧ g = m := by
  constructor
  · rintro ⟨⟨h1, h2, h3⟩, hub⟩
    have := hub ⟨hm, by omega, Nat.le_refl m⟩
    omega
  · rintro ⟨h, rfl⟩
    exact ⟨⟨hm, h, Nat.le_refl g⟩, fun n hn => hn.2.2⟩

theorem grant64_eq_some {request most per left g : Nat} (hm : most % 64 = 0) (hp : 0 < per) :
    grant64 request most per left = some g ↔ IsGreatest (mayGrant64 request most per left) g := by
  unfold grant64
  dsimp only
  generalize hr : ((if request = 0 then 64 else request) + 63) / 64 * 64 = rounded
  have hset : mayGrant64 request most per left
      = {n | n % 64 = 0 ∧ 64 ≤ n ∧ n ≤ min (min rounded most) (left / per / 64 * 64)} := by
    ext n
    simp only [mayGrant64, Set.mem_ofPred_eq, Nat.mul_comm per, ← Nat.le_div_iff_mul_le hp]
    split at hr <;> omega
  rw [hset, isGreatest_multiple (by omega)]
  split <;> simp <;> omega

/-- A card capacity is not above the request rounded up when it is the least one or below twice the request. -/
theorem le_cardRequest_iff {n : Nat} (hn : n ∈ [1024, 2048, 4096, 8192, 16384]) (request : Nat) :
    n ≤ cardRequest request ↔ n = 1024 ∨ n < 2 * request := by
  simp only [List.mem_cons, List.not_mem_nil, or_false] at hn
  unfold cardRequest
  split_ifs <;> omega

theorem grantCards_eq_some {request left g : Nat} :
    grantCards request left = some g ↔ IsGreatest (mayGrantCards request left) g := by
  have hset : mayGrantCards request left
      = {n | n ∈ [16384, 8192, 4096, 2048, 1024] ∧ decide (n ≤ cardRequest request ∧ n ≤ left) = true} := by
    ext n
    have hmem : n ∈ [16384, 8192, 4096, 2048, 1024] ↔ n ∈ [1024, 2048, 4096, 8192, 16384] :=
      List.mem_reverse (as := [1024, 2048, 4096, 8192, 16384])
    simp only [Set.mem_ofPred_eq, hmem, decide_eq_true_eq]
    exact and_congr_right fun hn => by rw [le_cardRequest_iff hn]
  rw [hset, ← find?_eq_some_iff_isGreatest (by decide)]
  rfl

/-- Four grants, each the greatest that the ones before it leave room for. -/
theorem grantAll_eq_some {r g : Capacities} :
    grantAll r = some g ↔ IsGreatest (mayGrant64 r.cabins 4096 2 24576) g.cabins
      ∧ IsGreatest (mayGrant64 r.guests 8192 2 (24576 - 2 * g.cabins)) g.guests
      ∧ IsGreatest (mayGrant64 r.folios 4096 1 (24576 - 2 * g.cabins - 2 * g.guests)) g.folios
      ∧ IsGreatest (mayGrantCards r.cards (24576 - 2 * g.cabins - 2 * g.guests - g.folios)) g.cards := by
  obtain ⟨cabins, guests, folios, cards⟩ := g
  rw [← grant64_eq_some (by decide) (by decide), ← grant64_eq_some (by decide) (by decide),
    ← grant64_eq_some (by decide) (by decide), ← grantCards_eq_some]
  simp only [grantAll, Option.bind_eq_bind, Option.bind_eq_some_iff, Option.some.injEq, Capacities.mk.injEq,
    Config.storeUnits]
  constructor
  · rintro ⟨a, ha, b, hb, c, hc, d, hd, rfl, rfl, rfl, rfl⟩
    exact ⟨ha, hb, hc, hd⟩
  · rintro ⟨ha, hb, hc, hd⟩
    exact ⟨_, ha, _, hb, _, hc, _, hd, rfl, rfl, rfl, rfl⟩

/-- What R5 says of every partition granted. -/
theorem grantAll_bounds {r g : Capacities} (h : grantAll r = some g) :
    2 * g.cabins + 2 * g.guests + g.folios + g.cards ≤ 24576
      ∧ grantable 4096 g.cabins ∧ grantable 8192 g.guests ∧ grantable 4096 g.folios
      ∧ g.cards ∈ [1024, 2048, 4096, 8192, 16384] := by
  obtain ⟨⟨hc, -⟩, ⟨hg, -⟩, ⟨hf, -⟩, ⟨hk, -⟩⟩ := grantAll_eq_some.1 h
  simp only [mayGrant64, mayGrantCards, Set.mem_ofPred_eq] at hc hg hf hk
  obtain ⟨hcards, -, hleft⟩ := hk
  exact ⟨by omega, by omega, by omega, by omega, hcards⟩

/-- No capacity granted is above its request rounded up. -/
theorem grantAll_le_requests {r g : Capacities} (h : grantAll r = some g) :
    g.cabins < max r.cabins 1 + 64 ∧ g.guests < max r.guests 1 + 64 ∧ g.folios < max r.folios 1 + 64
      ∧ g.cards ≤ max 1024 (2 * r.cards) := by
  obtain ⟨⟨hc, -⟩, ⟨hg, -⟩, ⟨hf, -⟩, ⟨hk, -⟩⟩ := grantAll_eq_some.1 h
  simp only [mayGrant64, mayGrantCards, Set.mem_ofPred_eq] at hc hg hf hk
  obtain ⟨-, hround, -⟩ := hk
  omega

/-- Settles O16, from the four grants one by one. -/
theorem grantsFitTheStore : Obligations.GrantsFitTheStore := by
  refine ⟨fun r g => grantAll_eq_some, fun r => ?_, fun r g h => ?_⟩
  · simp only [Option.eq_none_iff_forall_ne_some, ne_eq, grantAll_eq_some]
  · obtain ⟨hunits, ⟨c1, c2, c3⟩, ⟨g1, g2, g3⟩, ⟨f1, f2, f3⟩, hcards⟩ := grantAll_bounds h
    obtain ⟨hc, hg, hf, hk⟩ := grantAll_le_requests h
    exact ⟨hunits, c1, c2, c3, hc, g1, g2, g3, hg, f1, f2, f3, hf, hcards, hk⟩

end Sys2Proof.Machine
end

section
/-! The tables of a state apart from everything else, and what each shared operation leaves of their form and size
(R5, R12, R13, R15, R36, R55, R75, R161). -/

namespace Sys2Proof.Machine

/-! ### One table -/

variable {α : Type}

/-- The indices of a table rise and lie below its size. -/
abbrev Table.Fits (n : Nat) (t : Table α) : Prop := Table.wf t ∧ ∀ e ∈ t, e.1 < n

/-- The table also lists nothing in the condition `d`. -/
abbrev Table.FitsD (n : Nat) (d : α) (t : Table α) : Prop := Table.Fits n t ∧ ∀ e ∈ t, e.2 ≠ d

theorem Table.Fits.nil (n : Nat) : Table.Fits n ([] : Table α) := ⟨.nil, by simp⟩

theorem Table.FitsD.nil (n : Nat) (d : α) : Table.FitsD n d ([] : Table α) := ⟨.nil n, by simp⟩

theorem Table.Fits.put {n k : Nat} {t : Table α} (h : Table.Fits n t) (hk : k < n) (a : α) :
    Table.Fits n (Table.put t k a) := by
  refine ⟨Table.put_wf h.1 k a, fun e he => ?_⟩
  rcases Table.mem_put he with rfl | he
  · exact hk
  · exact h.2 e he

theorem Table.Fits.erase {n : Nat} {t : Table α} (h : Table.Fits n t) (k : Nat) : Table.Fits n (Table.erase t k) :=
  ⟨Table.erase_wf h.1 k, fun e he => h.2 e (Table.mem_erase he)⟩

theorem Table.Fits.mapRecords {n : Nat} {t : Table α} (h : Table.Fits n t) (f : α → α) :
    Table.Fits n (Table.mapRecords t f) := by
  refine ⟨Table.mapRecords_wf h.1 f, fun e he => ?_⟩
  obtain ⟨x, hx, rfl⟩ := List.mem_map.1 he
  exact h.2 x hx

theorem Table.Fits.lt {n k : Nat} {t : Table α} {a : α} (h : Table.Fits n t) (hf : Table.find t k = some a) : k < n :=
  h.2 (k, a) (Table.find_mem hf)

/-- An entry in another condition than the one of unlisted entries is listed. -/
theorem Table.find_of_findD_ne {k : Nat} {t : Table α} {d : α} (h : Table.findD t k d ≠ d) :
    Table.find t k = some (Table.findD t k d) := by
  unfold Table.findD at *
  cases hf : Table.find t k <;> simp_all

theorem Table.FitsD.putD [DecidableEq α] {n k : Nat} {d : α} {t : Table α} (h : Table.FitsD n d t) (hk : k < n)
    (a : α) : Table.FitsD n d (Table.putD t k a d) := by
  unfold Table.putD
  split
  · exact ⟨h.1.erase k, fun e he => h.2 e (Table.mem_erase he)⟩
  · refine ⟨h.1.put hk a, fun e he => ?_⟩
    rcases Table.mem_put he with rfl | he
    · assumption
    · exact h.2 e he

/-- Writing the condition of unlisted entries asks nothing of the index. -/
theorem Table.FitsD.putD_of_lt [DecidableEq α] {n k : Nat} {d a : α} {t : Table α} (h : Table.FitsD n d t)
    (hk : a ≠ d → k < n) : Table.FitsD n d (Table.putD t k a d) := by
  by_cases ha : a = d
  · rw [ha, Table.putD, if_pos rfl]
    exact ⟨h.1.erase k, fun e he => h.2 e (Table.mem_erase he)⟩
  · exact h.putD (hk ha) a

/-- Installing staged gratuities keeps the form of the outlet table. -/
theorem Table.FitsD.installOutlets {n : Nat} {t : Table Outlet} (h : ∀ e ∈ t, e.1 < n) :
    Table.FitsD n Outlet.cold (installOutlets t) := by
  induction t with
  | nil => exact .nil n _
  | cons e t ih => exact (ih fun x hx => h x (List.mem_cons_of_mem _ hx)).putD (h e List.mem_cons_self) _

/-! ### The tables of a state -/

/-- The store and every table that it sizes, apart from the rest of the state. -/
structure Tables where
  store   : Store
  guests  : Table Guest
  cards   : Table CardSlot
  folios  : Table Folio
  cabins  : Table Cabin
  outlets : Table Outlet
  slots   : Table HoldSlot
  lapsed  : List Nat
  posts   : Table Post

def State.tables (s : State) : Tables :=
  ⟨s.store, s.roster.guests, s.cards.slots, s.folio.folios, s.cabin.cabins, s.folio.outlets, s.hold.slots,
    s.hold.lapsed, s.field.posts⟩

/-- The tables stand in the store `st`, each in its form and within its size there. -/
structure Tables.Fit (st : Store) (v : Tables) : Prop where
  store   : v.store = st
  guests  : Table.Fits st.caps.guests v.guests
  cards   : Table.Fits st.caps.cards v.cards
  folios  : Table.Fits st.caps.folios v.folios
  cabins  : Table.FitsD st.cabinCount Cabin.empty v.cabins
  outlets : Table.FitsD 64 Outlet.cold v.outlets
  slots   : Table.FitsD 256 HoldSlot.cold v.slots
  lapsed  : ∀ k ∈ v.lapsed, k < 256
  posts   : Table.Fits 256 v.posts
  keys    : (v.posts.map (fun e => (e.2.lane, e.2.terminal))).Nodup

/-- The tables of a state stand in the store `st` and fit it. -/
abbrev State.Fits (st : Store) (s : State) : Prop := s.tables.Fit st

/-- The partition and the plan of a store are valid, whatever the tables hold. -/
abbrev Store.Valid (st : Store) : Prop :=
  (if st.part = .blank then st.caps = ⟨0, 0, 0, 0⟩
    else st.caps.cards ∈ [1024, 2048, 4096, 8192, 16384] ∧ st.caps.units ≤ Config.storeUnits
      ∧ grantable 4096 st.caps.cabins ∧ grantable 8192 st.caps.guests ∧ grantable 4096 st.caps.folios)
    ∧ st.PlanSound

/-- TablesSound, table by table. -/
theorem tablesSound_iff {s : State} : s.TablesSound ↔ s.Fits s.store ∧ s.store.Valid := by
  constructor
  · rintro ⟨⟨guests, cards, folios, cabins, outlets, slots, posts⟩, ⟨dcabins, doutlets, dslots⟩, hpart, hplan,
      ⟨nguests, ncards, nfolios, ncabins, noutlets, nslots, nlapsed, nposts⟩, hkeys⟩
    exact ⟨{ store := rfl, guests := ⟨guests, nguests⟩, cards := ⟨cards, ncards⟩, folios := ⟨folios, nfolios⟩
             cabins := ⟨⟨cabins, ncabins⟩, dcabins⟩, outlets := ⟨⟨outlets, noutlets⟩, doutlets⟩
             slots := ⟨⟨slots, nslots⟩, dslots⟩, lapsed := nlapsed, posts := ⟨posts, nposts⟩, keys := hkeys },
      hpart, hplan⟩
  · rintro ⟨h, hpart, hplan⟩
    exact ⟨⟨h.guests.1, h.cards.1, h.folios.1, h.cabins.1.1, h.outlets.1.1, h.slots.1.1, h.posts.1⟩,
      ⟨h.cabins.2, h.outlets.2, h.slots.2⟩, hpart, hplan,
      ⟨h.guests.2, h.cards.2, h.folios.2, h.cabins.1.2, h.outlets.1.2, h.slots.1.2, h.lapsed, h.posts.2⟩, h.keys⟩

/-- In an unchanged store, tables that fit are sound. -/
theorem State.TablesSound.of_fits {s t : State} (hs : s.TablesSound) (ht : t.Fits s.store) : t.TablesSound := by
  have hst : t.store = s.store := ht.store
  rw [tablesSound_iff, hst]
  exact ⟨ht, (tablesSound_iff.1 hs).2⟩

/-- A walk of a window finds a card in the slot that lists it. -/
theorem find_of_walkWindow {slots : Table CardSlot} {serial k : Nat} {c : Card}
    {window : List Nat} (h : walkWindow slots serial window = some (k, c)) : Table.find slots k = some (.inUse c) := by
  induction window with
  | nil => simp [walkWindow] at h
  | cons j rest ih =>
    simp only [walkWindow] at h
    split at h
    · simp at h
    · exact ih h
    · split at h
      · simp only [Option.some.injEq, Prod.mk.injEq] at h
        obtain ⟨rfl, rfl⟩ := h
        assumption
      · exact ih h

namespace State

variable {st : Store} {s : State}

/-! What lies in no table leaves the tables alone. -/

@[simp] theorem tables_withTally (s : State) (x : Tally) : (s.withTally x).tables = s.tables := rfl
@[simp] theorem tables_withMode (s : State) (x : ModeUnit) : (s.withMode x).tables = s.tables := rfl
@[simp] theorem tables_withClock (s : State) (x : Clock) : (s.withClock x).tables = s.tables := rfl
@[simp] theorem tables_withLink (s : State) (x : Link) : (s.withLink x).tables = s.tables := rfl
@[simp] theorem tables_withNotice (s : State) (x : NoticeUnit) : (s.withNotice x).tables = s.tables := rfl
@[simp] theorem tables_withPending (s : State) (x : List Instr) : (s.withPending x).tables = s.tables := rfl
@[simp] theorem tables_raise (s : State) (n : Notice) : (s.raise n).tables = s.tables := rfl
@[simp] theorem tables_raiseLaneFault (s : State) (n : Fin 4) : (s.raiseLaneFault n).tables = s.tables := rfl
@[simp] theorem tables_raiseAlarmLine (s : State) (n : Fin 4) : (s.raiseAlarmLine n).tables = s.tables := rfl
@[simp] theorem tables_drive (s : State) (b : List Byte) : (s.drive b).tables = s.tables := rfl
@[simp] theorem tables_putLane (s : State) (n : Fin 4) (l : Lane) : (s.putLane n l).tables = s.tables := rfl
@[simp] theorem tables_putInput (s : State) (n : Fin 4) (x : AlarmInput) : (s.putInput n x).tables = s.tables := rfl
@[simp] theorem tables_putWatch (s : State) (n : Fin 2) (w : Watch) : (s.putWatch n w).tables = s.tables := rfl
@[simp] theorem tables_putOverride (s : State) (n : Fin 8) (o : Option Override) :
    (s.putOverride n o).tables = s.tables := rfl

@[simp] theorem tables_evaluateWatch (s : State) (b : Tally) (n : Fin 2) : (s.evaluateWatch b n).tables = s.tables := by
  simp [tables]

@[simp] theorem tables_evaluateWatches (s : State) (b : Tally) : (s.evaluateWatches b).tables = s.tables := by
  simp [tables]

@[simp] theorem tables_evaluateCompletion (s : State) : s.evaluateCompletion.tables = s.tables := by
  simp [tables]

theorem fits_linkFree (st : Store) : LinkFree (State.Fits st) := fun _ _ _ _ h => h

/-! ### Single writes -/

theorem Fits.withRoster {x : Roster} (h : s.Fits st) (hx : Table.Fits st.caps.guests x.guests) :
    (s.withRoster x).Fits st := { h with guests := hx }

theorem Fits.withCards {x : CardTable} (h : s.Fits st) (hx : Table.Fits st.caps.cards x.slots) :
    (s.withCards x).Fits st := { h with cards := hx }

theorem Fits.withHold {x : HoldPool} (h : s.Fits st) (hx : Table.FitsD 256 HoldSlot.cold x.slots)
    (hl : ∀ k ∈ x.lapsed, k < 256) : (s.withHold x).Fits st := { h with slots := hx, lapsed := hl }

theorem Fits.putGuest {k : Nat} (h : s.Fits st) (hk : k < st.caps.guests) (g : Guest) : (s.putGuest k g).Fits st :=
  h.withRoster (h.guests.put hk g)

theorem Fits.putFolio {k : Nat} (h : s.Fits st) (hk : k < st.caps.folios) (f : Folio) : (s.putFolio k f).Fits st :=
  { h with folios := h.folios.put hk f }

theorem Fits.freeFolio (h : s.Fits st) (k : Nat) : (s.freeFolio k).Fits st :=
  { h with folios := h.folios.erase k }

theorem Fits.putCabin {k : Nat} {c : Cabin} (h : s.Fits st) (hk : c ≠ Cabin.empty → k < st.cabinCount) :
    (s.putCabin k c).Fits st :=
  { h with cabins := h.cabins.putD_of_lt hk }

theorem Fits.putOutlet {k : Nat} (h : s.Fits st) (hk : k < 64) (o : Outlet) : (s.putOutlet k o).Fits st :=
  { h with outlets := h.outlets.putD hk o }

theorem Fits.putHold {k : Nat} (h : s.Fits st) (hk : k < 256) (x : HoldSlot) : (s.putHold k x).Fits st :=
  h.withHold (h.slots.putD hk x) h.lapsed

theorem Fits.putCard {k : Nat} (h : s.Fits st) (hk : k < st.caps.cards) (c : Card) : (s.putCard k c).Fits st :=
  h.withCards (h.cards.put hk _)

/-! ### Indices that a lookup finds -/

theorem Fits.guest_lt {k : Nat} {g : Guest} (h : s.Fits st) (hg : s.guestAt k = some g) : k < st.caps.guests :=
  h.guests.lt hg

theorem Fits.folio_lt {k : Nat} {f : Folio} (h : s.Fits st) (hf : s.folioAt k = some f) : k < st.caps.folios :=
  h.folios.lt hf

theorem guestAt_of_namedGuest {k : Nat} {g : Guest} (h : s.namedGuest k = some g) : s.guestAt k = some g := by
  unfold namedGuest at h
  split at h
  · exact h
  · simp at h

theorem folioAt_of_namedFolio {k : Nat} {f : Folio} (h : s.namedFolio k = some f) : s.folioAt k = some f := by
  unfold namedFolio at h
  split at h
  · exact h
  · simp at h

theorem Fits.card_lt {n k : Nat} {c : Card} (h : s.Fits st) (hc : s.lookupCard n = some (k, c)) : k < st.caps.cards :=
  h.cards.lt (find_of_walkWindow hc)

/-- A hold slot that is not FREE is one of the 256. -/
theorem Fits.hold_lt {k : Nat} (h : s.Fits st) (hk : (s.holdAt k).status ≠ .free) : k < 256 :=
  h.slots.1.lt (Table.find_of_findD_ne (t := s.hold.slots) (d := HoldSlot.cold) fun he => hk (by rw [holdAt, he]; rfl))

/-! ### Cabins, folios and cards of a guest -/

theorem Fits.appendOccupant {c : Nat} (h : s.Fits st) (hc : c < st.cabinCount) (k : Nat) :
    (s.appendOccupant c k).Fits st := h.putCabin fun _ => hc

/-- Removing an occupant from an unlisted cabin writes the empty record that it has. -/
theorem Fits.removeOccupant (h : s.Fits st) (c k : Nat) : (s.removeOccupant c k).Fits st := by
  refine h.putCabin fun hne => ?_
  by_cases he : s.cabinAt c = Cabin.empty
  · exact absurd (by rw [he]; rfl) hne
  · exact h.cabins.1.lt (Table.find_of_findD_ne he)

theorem Fits.enterCabin {cabin : Option Nat} (h : s.Fits st) (hc : ∀ c ∈ cabin, c < st.cabinCount) (k : Nat) :
    (s.enterCabin cabin k).Fits st := by
  cases cabin with
  | none => exact h
  | some c => exact h.appendOccupant (hc c rfl) k

theorem Fits.quitCabin (h : s.Fits st) (cabin : Option Nat) (k : Nat) : (s.quitCabin cabin k).Fits st := by
  cases cabin with
  | none => exact h
  | some c => exact h.removeOccupant c k

theorem Fits.joinFolio (h : s.Fits st) (k : Nat) : (s.joinFolio k).Fits st := by
  unfold State.joinFolio
  split
  · exact h.putFolio (h.folio_lt ‹_›) _
  · exact h

theorem Fits.leaveFolio (h : s.Fits st) (k : Nat) : (s.leaveFolio k).Fits st := by
  unfold State.leaveFolio
  split
  · split
    · exact h.freeFolio k
    · exact h.putFolio (h.folio_lt ‹_›) _
  · exact h

theorem Fits.enterFolio (h : s.Fits st) (folio : Option Nat) : (s.enterFolio folio).Fits st := by
  cases folio with
  | none => exact h
  | some k => exact h.joinFolio k

theorem Fits.quitFolio (h : s.Fits st) (folio : Option Nat) : (s.quitFolio folio).Fits st := by
  cases folio with
  | none => exact h
  | some k => exact h.leaveFolio k

theorem Fits.placeCard {k : Nat} (h : s.Fits st) (hk : k < st.caps.cards) (c : Card) : (s.placeCard k c).Fits st := by
  unfold State.placeCard
  dsimp only
  have hp := h.withCards (x := ⟨Table.put s.cards.slots k (.inUse c), s.cards.inUseCount + 1,
    if s.cardSlotAt k == some .retired then s.cards.retiredCount - 1 else s.cards.retiredCount⟩) (h.cards.put hk _)
  split
  · split
    · exact hp.putGuest (hp.guest_lt ‹_›) _
    · exact hp
  · exact hp
  · exact hp

theorem Fits.retireCard {k : Nat} (h : s.Fits st) (hk : k < st.caps.cards) (c : Card) : (s.retireCard k c).Fits st := by
  unfold State.retireCard
  dsimp only
  have hp := h.withCards (x := ⟨Table.put s.cards.slots k .retired, s.cards.inUseCount - 1, s.cards.retiredCount + 1⟩)
    (h.cards.put hk _)
  split
  · split
    · exact hp.putGuest (hp.guest_lt ‹_›) _
    · exact hp
  · exact hp
  · exact hp

theorem Fits.suspendCards (h : s.Fits st) (serials : List Nat) : (s.suspendCards serials).Fits st := by
  refine List.foldlRecOn serials _ h fun t ht n _ => ?_
  split
  · exact ht.putCard (ht.card_lt ‹_›) _
  · exact ht

theorem Fits.retireCards (h : s.Fits st) (serials : List Nat) : (s.retireCards serials).Fits st := by
  refine List.foldlRecOn serials _ h fun t ht n _ => ?_
  split
  · exact ht.retireCard (ht.card_lt ‹_›) _
  · exact ht

/-! ### Presence and musters -/

theorem Fits.movePresence {k : Nat} (h : s.Fits st) (hk : k < st.caps.guests) (g : Guest) (q : Presence) :
    (s.movePresence k g q).Fits st := by
  unfold State.movePresence
  dsimp only
  split
  · simpa [State.Fits] using h.putGuest hk _
  · exact h.putGuest hk _

theorem Fits.correctPresence {k : Nat} (h : s.Fits st) (hk : k < st.caps.guests) (g : Guest) :
    (s.correctPresence k g).Fits st := by
  simpa [State.correctPresence, State.Fits] using h.movePresence hk g .aboard

theorem Fits.startMuster (h : s.Fits st) : s.startMuster.Fits st := by
  simp only [State.startMuster, State.Fits, tables_evaluateWatches, tables_evaluateCompletion, tables_withMode,
    tables_withTally]
  refine h.withRoster ?_
  dsimp only
  exact Table.Fits.mapRecords (t := s.roster.guests) h.guests _

theorem tables_moveStation (s : State) (g : Guest) (x : Fin 16) : (s.moveStation g x).tables = s.tables := by
  unfold State.moveStation
  split
  · dsimp only
    split <;> simp
  · rfl

theorem tables_markGroup (s : State) (g : Guest) : (s.markGroup g).tables = s.tables := by
  unfold State.markGroup
  split <;> rfl

theorem tables_endMuster (s : State) : s.endMuster.tables = s.tables := by
  simp [State.endMuster]

/-! ### Charges and holds -/

/-- A change of the folio that an index names, if it names one. -/
theorem Fits.changeFolio (h : s.Fits st) (k : Nat) (change : Folio → Folio) :
    State.Fits st (match s.folioAt k with | some f => s.putFolio k (change f) | none => s) := by
  split
  · exact h.putFolio (h.folio_lt ‹_›) _
  · exact h

/-- A change of the guest that an index names, if it names one. -/
theorem Fits.changeGuest (h : s.Fits st) (k : Nat) (change : Guest → Guest) :
    State.Fits st (match s.guestAt k with | some g => s.putGuest k (change g) | none => s) := by
  split
  · exact h.putGuest (h.guest_lt ‹_›) _
  · exact h

theorem Fits.postTotal (h : s.Fits st) (folio guest t : Nat) : (s.postTotal folio guest t).Fits st :=
  (h.changeFolio folio _).changeGuest guest _

theorem Fits.createHold {k : Nat} (h : s.Fits st) (hk : k < 256) (x : Hold) : (s.createHold k x).Fits st :=
  have hslot := h.putHold hk ⟨.active x, (s.holdAt k).generation + 1⟩
  have hlist := hslot.withHold (x := { (s.putHold k _).hold with lapsed := _ }) hslot.slots
    fun j hj => h.lapsed j (List.mem_of_mem_erase hj)
  (hlist.changeFolio x.folio _).changeGuest x.guest _

theorem Fits.releaseHeld (h : s.Fits st) (k : Nat) (x : Hold) : (s.releaseHeld k x).Fits st :=
  (h.changeFolio x.folio _).changeGuest x.guest _

theorem Fits.endHold {k : Nat} (h : s.Fits st) (hk : k < 256) (x : Hold) : (s.endHold k x).Fits st :=
  (h.releaseHeld k x).putHold hk _

theorem Fits.lapseHold {k : Nat} (h : s.Fits st) (hk : k < 256) (x : Hold) : (s.lapseHold k x).Fits st := by
  have ht := (h.releaseHeld k x).putHold hk ⟨.lapsed x, (s.holdAt k).generation⟩
  refine ht.withHold ht.slots fun j hj => ?_
  rcases List.mem_append.1 hj with hj | hj
  · exact ht.lapsed j hj
  · exact List.mem_singleton.1 hj ▸ hk

/-- The slots that expire are listed. -/
theorem Fits.expiring_lt (h : s.Fits st) {v : Nat} {e : Nat × Hold} (he : e ∈ s.expiring v) : e.1 < 256 := by
  obtain ⟨x, hx, hm⟩ := List.mem_filterMap.1 he
  have hk : e.1 = x.1 := by
    split at hm
    · split at hm
      · rw [← Option.some.inj hm]
      · simp at hm
    · simp at hm
    · simp at hm
  exact hk ▸ h.slots.1.2 x hx

theorem Fits.lapseExpiring (h : s.Fits st) (v : Nat) : (s.lapseExpiring v).Fits st :=
  List.foldlRecOn (motive := State.Fits st) (s.expiring v) _ h fun _ ht _ he => ht.lapseHold (h.expiring_lt he) _

theorem Fits.releaseSlot (h : s.Fits st) (k : Nat) : (s.releaseSlot k).Fits st := by
  unfold State.releaseSlot
  split
  · rename_i x hx
    exact h.endHold (h.hold_lt (by simp [hx])) x
  · exact h
  · exact h

theorem Fits.releaseHolds (h : s.Fits st) (holds : List Nat) : (s.releaseHolds holds).Fits st :=
  List.foldlRecOn (motive := State.Fits st) holds _ h fun _ ht k _ => ht.releaseSlot k

/-! ### The clock -/

theorem Fits.attemptRollover (h : s.Fits st) : s.attemptRollover.Fits st := by
  unfold State.attemptRollover
  split
  · exact { h with outlets := .installOutlets h.outlets.1.2 }
  · exact h

theorem Fits.tickMinute (h : s.Fits st) : s.tickMinute.Fits st := by
  have hc : ∀ c : Clock, (s.withClock c).Fits st := fun _ => h
  unfold State.tickMinute
  dsimp only
  generalize (if s.clock.minute = 1439 then 0 else s.clock.minute + 1) = minute
  split
  · exact (hc _).attemptRollover
  · exact hc _

theorem Fits.arriveSecond (h : s.Fits st) : s.arriveSecond.Fits st := by
  have ht : ∀ (c : Clock) (v : Nat), ((s.withClock c).lapseExpiring v).Fits st :=
    fun c v => Fits.lapseExpiring (s := s.withClock c) h v
  unfold State.arriveSecond
  dsimp only
  generalize (if s.clock.second + 1 = 60 then 0 else s.clock.second + 1) = second
  split
  · exact (ht _ _).tickMinute
  · exact ht _ _

/-! ### Lanes and inputs -/

theorem tables_receiveRequest (s : State) (n : Fin 4) (r : Request) : (s.receiveRequest n r).tables = s.tables := by
  unfold State.receiveRequest
  dsimp only
  split
  · rfl
  · split
    · split <;> rfl
    · rfl

theorem tables_receiveByte (s : State) (n : Fin 4) (b : Byte) : (s.receiveByte n b).tables = s.tables := by
  unfold State.receiveByte
  split
  · split <;> rfl
  · dsimp only
    split_ifs
    · rfl
    · rfl
    · rfl
    · split
      · rw [tables_receiveRequest]; rfl
      · rfl

theorem Fits.assertInput (h : s.Fits st) (n : Fin 4) : (s.assertInput n).Fits st := by
  have hp : (s.putInput n ((s.inputAt n).qualified true)).Fits st := h
  show ((s.putInput n _).requestMode _).Fits st
  unfold State.requestMode
  split
  · split
    · exact hp
    · exact hp.startMuster
  · exact hp
  · exact hp
  · exact hp

theorem Fits.tickInput (h : s.Fits st) (n : Fin 4) : (s.tickInput n).Fits st := by
  unfold State.tickInput
  split
  · exact h
  · split
    · exact h
    · unfold State.qualifyInput
      split
      · exact h.assertInput n
      · split
        · exact h
        · exact h

theorem Fits.tickClock (h : s.Fits st) : s.tickClock.Fits st := by
  unfold State.tickClock
  split
  · split
    · exact h
    · exact h.arriveSecond
  · exact h

end State

end Sys2Proof.Machine
end

section
/-! What the body of each command leaves of the tables: the reads return the state as it is, the settings of the other
blocks spare the tables, and the commands of the store's blocks write within the sizes (R5, R12, R13, R15, R36, R55,
R75, R161). -/

namespace Sys2Proof.Machine

/-! ### Reads -/

/-- A body that only answers. -/
abbrev ReadsOnly (body : List Byte → State → Verdict (State × List Byte)) : Prop :=
  ∀ (p : List Byte) (s : State), Yields (body p s) (fun x => x.1 = s)

theorem readStore_readsOnly : ReadsOnly readStore := fun p s => by simp [readStore]
theorem readOverrides_readsOnly : ReadsOnly readOverrides := fun p s => by simp [readOverrides]
theorem readCabin_readsOnly : ReadsOnly readCabin := fun p s => by simp [readCabin]
theorem readCurrencies_readsOnly : ReadsOnly readCurrencies := fun p s => by simp [readCurrencies]
theorem readOutlet_readsOnly : ReadsOnly readOutlet := fun p s => by simp [readOutlet]
theorem readFolio_readsOnly : ReadsOnly readFolio := fun p s => by simp [readFolio]
theorem readHold_readsOnly : ReadsOnly readHold := fun p s => by simp [readHold]
theorem lookupGuest_readsOnly : ReadsOnly lookupGuest := fun p s => by simp [lookupGuest]
theorem readGuest_readsOnly : ReadsOnly readGuest := fun p s => by simp [readGuest]
theorem findGuests_readsOnly : ReadsOnly findGuests := fun p s => by simp [findGuests]
theorem readTallies_readsOnly : ReadsOnly readTallies := fun p s => by simp [readTallies]
theorem readModes_readsOnly : ReadsOnly readModes := fun p s => by simp [readModes]
theorem readClock_readsOnly : ReadsOnly readClock := fun p s => by simp [readClock]
theorem readPosts_readsOnly : ReadsOnly readPosts := fun p s => by simp [readPosts]
theorem readLanes_readsOnly : ReadsOnly readLanes := fun p s => by simp [readLanes]
theorem readNotices_readsOnly : ReadsOnly readNotices := fun p s => by simp [readNotices]

theorem readCard_readsOnly : ReadsOnly readCard := fun p s => by
  unfold readCard
  dsimp only
  split
  · simp
  · split <;> simp
  · simp

/-! ### Settings -/

/-- A body that spares the tables. -/
abbrev SparesTables (body : List Byte → State → Verdict (State × List Byte)) : Prop :=
  ∀ (p : List Byte) (s : State), Yields (body p s) (fun x => x.1.tables = s.tables)

theorem ReadsOnly.sparesTables {body : List Byte → State → Verdict (State × List Byte)} (h : ReadsOnly body) :
    SparesTables body := fun p s => (h p s).mono fun _ hx => congrArg State.tables hx

theorem setOverride_sparesTables : SparesTables setOverride := fun p s => by simp [setOverride]
theorem clearOverride_sparesTables : SparesTables clearOverride := fun p s => by simp [clearOverride]
theorem setGangway_sparesTables : SparesTables setGangway := fun p s => by simp [setGangway]
theorem setWatchGroups_sparesTables : SparesTables setWatchGroups := fun p s => by simp [setWatchGroups]
theorem setAlarmInput_sparesTables : SparesTables setAlarmInput := fun p s => by simp [setAlarmInput]
theorem setLockdown_sparesTables : SparesTables setLockdown := fun p s => by simp [setLockdown]
theorem stopCharging_sparesTables : SparesTables stopCharging := fun p s => by simp [stopCharging]
theorem setClock_sparesTables : SparesTables setClock := fun p s => by simp [setClock]
theorem setRolloverMinute_sparesTables : SparesTables setRolloverMinute := fun p s => by simp [setRolloverMinute]
theorem setNotices_sparesTables : SparesTables setNotices := fun p s => by simp [setNotices]
theorem clearLockdown_sparesTables : SparesTables clearLockdown := fun p s => by simp [clearLockdown]
theorem resumeCharging_sparesTables : SparesTables resumeCharging := fun p s => by simp [resumeCharging]
theorem haltField_sparesTables : SparesTables haltField := fun p s => by simp only [haltField, yields_ok]; rfl
theorem resumeField_sparesTables : SparesTables resumeField := fun p s => by simp only [resumeField, yields_ok]; rfl

theorem setCurrency_sparesTables : SparesTables setCurrency := fun p s => by
  simp only [setCurrency, yields_bind, yields_need, yields_check, yields_pure]
  intros
  rfl

theorem setTallyWatch_sparesTables : SparesTables setTallyWatch := fun p s => by
  simp only [setTallyWatch, yields_bind, yields_need, yields_ite, yields_pure]
  intros
  constructor
  · intro
    unfold State.armWatch
    split <;> rfl
  · intro
    rfl

theorem setStations_sparesTables : SparesTables setStations := fun p s => by
  simp only [setStations, yields_ok]
  split <;> simp

theorem endMuster_sparesTables : SparesTables endMusterCommand := fun p s => by
  simp only [endMusterCommand, yields_bind, yields_pure]
  intro _ _
  split <;> simp [State.tables_endMuster]

theorem clearNotices_sparesTables : SparesTables clearNotices := fun p s => by
  simp only [clearNotices, yields_ok]
  split <;> simp

/-! ### Commands of the blocks whose tables the store sizes -/

/-- A body's success leaves tables that fit the store `st`. -/
abbrev YieldsFit (st : Store) (x : Verdict (State × List Byte)) : Prop := Yields x (fun y => y.1.Fits st)

namespace State

variable {st : Store} {s : State}

theorem Fits.of_sparesTables {body : List Byte → State → Verdict (State × List Byte)} (h : s.Fits st)
    (hb : SparesTables body) (p : List Byte) : YieldsFit st (body p s) :=
  (hb p s).mono fun _ hx => show Tables.Fit st _ from hx ▸ h

theorem Fits.cabinIndex_lt {c : CabinCode} {i : Nat} (h : s.Fits st) (hi : s.store.cabinIndex c = some i) :
    i < st.cabinCount := by
  have hst : s.store = st := h.store
  exact hst ▸ Store.cabinIndex_lt hi

theorem Fits.decodeOptional_lt {c : Option CabinCode} {cabin : Option Nat} (h : s.Fits st)
    (hc : s.store.decodeOptional c = some cabin) : ∀ i ∈ cabin, i < st.cabinCount := by
  intro i hi
  cases c with
  | none => simp_all [Store.decodeOptional]
  | some code =>
    obtain ⟨j, hj, rfl⟩ := Option.map_eq_some_iff.1 hc
    exact h.cabinIndex_lt (hj.trans hi)

theorem Fits.caps_eq (h : s.Fits st) : s.store.caps = st.caps := by rw [← h.store]; rfl

theorem Fits.namedGuest_lt {k : Nat} {g : Guest} (h : s.Fits st) (hg : s.namedGuest k = some g) :
    k < st.caps.guests := h.guest_lt (guestAt_of_namedGuest hg)

theorem Fits.namedFolio_lt {k : Nat} {f : Folio} (h : s.Fits st) (hf : s.namedFolio k = some f) :
    k < st.caps.folios := h.folio_lt (folioAt_of_namedFolio hf)

/-! #### Cabins -/

theorem Fits.setCabin (h : s.Fits st) (p : List Byte) : YieldsFit st (Machine.setCabin p s) := by
  simp only [Machine.setCabin, YieldsFit, yields_bind, yields_need, yields_check, yields_pure]
  intro _ _ _ _ _ _ _ i hi
  exact h.putCabin fun _ => h.cabinIndex_lt hi

/-! #### Cards -/

theorem Fits.issueCard (h : s.Fits st) (hc : 0 < st.caps.cards) (p : List Byte) :
    YieldsFit st (Machine.issueCard p s) := by
  simp only [Machine.issueCard, YieldsFit, yields_bind, yields_need, yields_check, yields_pure]
  intro _ _ _ _ _ _ _ _ k hk
  refine h.placeCard ?_ _
  obtain ⟨j, -, rfl⟩ := List.mem_map.1 (List.mem_of_find?_eq_some hk)
  rw [h.caps_eq]
  exact Nat.mod_lt _ hc

theorem Fits.reissueCard (h : s.Fits st) (p : List Byte) : YieldsFit st (Machine.reissueCard p s) := by
  simp only [Machine.reissueCard, YieldsFit, yields_bind, yields_need, yields_check, yields_pure]
  intro found hf _
  exact h.putCard (h.card_lt hf) _

theorem Fits.suspendCard (h : s.Fits st) (p : List Byte) : YieldsFit st (Machine.suspendCard p s) := by
  simp only [Machine.suspendCard, YieldsFit, yields_bind, yields_need, yields_pure]
  intro found hf
  exact h.putCard (h.card_lt hf) _

theorem Fits.restoreCard (h : s.Fits st) (p : List Byte) : YieldsFit st (Machine.restoreCard p s) := by
  simp only [Machine.restoreCard, YieldsFit, yields_bind, yields_need, yields_check, yields_pure]
  intro found hf _
  exact h.putCard (h.card_lt hf) _

theorem Fits.retireCardCommand (h : s.Fits st) (p : List Byte) : YieldsFit st (Machine.retireCard p s) := by
  simp only [Machine.retireCard, YieldsFit, yields_bind, yields_need, yields_pure]
  intro found hf
  exact h.retireCard (h.card_lt hf) _

/-! #### Guests -/

theorem Fits.enrol {k : Nat} {g : Guest} (h : s.Fits st) (hk : k < st.caps.guests)
    (hc : ∀ c ∈ g.cabin, c < st.cabinCount) : (s.enrol k g).Fits st := by
  simp only [State.enrol, State.Fits, tables_evaluateWatches, tables_withTally]
  exact ((h.withRoster (x := ⟨_, _⟩) (h.guests.put hk g)).enterCabin hc k).enterFolio g.folio

theorem Fits.enrolGuest (h : s.Fits st) (p : List Byte) : YieldsFit st (Machine.enrolGuest p s) := by
  simp only [Machine.enrolGuest, YieldsFit, yields_bind, yields_need, yields_check, yields_pure]
  intro _ _ _ _ _ _ _ _ _ _ _ _ _ _ _ cabin hcabin _ hk _ _
  exact h.enrol (h.caps_eq ▸ hk) (h.decodeOptional_lt hcabin)

theorem Fits.amend {k : Nat} {g g' : Guest} (h : s.Fits st) (hk : k < st.caps.guests)
    (hc : g'.cabin ≠ g.cabin → ∀ c ∈ g'.cabin, c < st.cabinCount) : (s.amend k g g').Fits st := by
  have hcabin : State.Fits st (if g'.cabin = g.cabin then s else (s.quitCabin g.cabin k).enterCabin g'.cabin k) := by
    split
    · exact h
    · exact (h.quitCabin g.cabin k).enterCabin (hc ‹_›) k
  have hfolio := (hcabin.quitFolio g.folio).enterFolio g'.folio
  simp only [State.amend, State.Fits, tables_evaluateWatches]
  generalize (if g'.cabin = g.cabin then s else (s.quitCabin g.cabin k).enterCabin g'.cabin k) = t at *
  have hput : State.Fits st
      ((if g'.folio = g.folio then t else (t.quitFolio g.folio).enterFolio g'.folio).putGuest k g') := by
    split
    · exact hcabin.putGuest hk g'
    · exact hfolio.putGuest hk g'
  split
  · exact hput
  · rw [tables_moveStation]
    exact hput

theorem Fits.amendGuest (h : s.Fits st) (p : List Byte) : YieldsFit st (Machine.amendGuest p s) := by
  simp only [Machine.amendGuest, YieldsFit, yields_bind, yields_need, yields_check, yields_pure]
  intro g hg _ _ code _ _ _ _ _ _ _ _ _ _ _ _ _ _ _ _ cabin hcabin _ _ _ _
  refine h.amend (h.namedGuest_lt hg) fun hne => ?_
  dsimp only at hne ⊢
  split at hne
  · rw [if_pos ‹_›]
    exact h.decodeOptional_lt hcabin
  · exact absurd rfl hne

theorem Fits.departGuest (h : s.Fits st) (p : List Byte) : YieldsFit st (Machine.departGuest p s) := by
  simp only [Machine.departGuest, YieldsFit, yields_bind, yields_need, yields_check, yields_pure]
  intro g hg _ _
  refine Fits.suspendCards ?_ _
  simpa [State.Fits] using h.movePresence (h.namedGuest_lt hg) g .departed

theorem Fits.retire (h : s.Fits st) (k : Nat) (g : Guest) : (s.retire k g).Fits st := by
  have ht := ((h.retireCards g.cards).quitCabin g.cabin k).quitFolio g.folio
  unfold State.retire
  dsimp only
  generalize (((s.retireCards g.cards).quitCabin g.cabin k).quitFolio g.folio) = t at *
  refine Fits.withRoster (by simpa [State.Fits] using ht) ?_
  simpa using Table.Fits.erase (t := t.roster.guests) ht.guests k

theorem Fits.retireGuest (h : s.Fits st) (p : List Byte) : YieldsFit st (Machine.retireGuest p s) := by
  simp only [Machine.retireGuest, YieldsFit, yields_bind, yields_need, yields_check, yields_pure]
  intro g _ _ _
  exact h.retire _ g

theorem Fits.setPresence (h : s.Fits st) (p : List Byte) : YieldsFit st (Machine.setPresence p s) := by
  simp only [Machine.setPresence, YieldsFit, yields_bind, yields_need, yields_check, yields_ite, yields_pure]
  intro q _ _ g hg _
  refine ⟨fun _ => h, fun _ => ?_⟩
  simpa [State.Fits] using h.movePresence (h.namedGuest_lt hg) g q

theorem Fits.startMusterCommand (h : s.Fits st) (p : List Byte) : YieldsFit st (Machine.startMusterCommand p s) := by
  unfold Machine.startMusterCommand
  split
  · exact yields_ok.2 h
  · exact yields_ok.2 h.startMuster

/-! #### Folios, outlets and holds -/

theorem Fits.openFolio (h : s.Fits st) (p : List Byte) : YieldsFit st (Machine.openFolio p s) := by
  simp only [Machine.openFolio, YieldsFit, yields_bind, yields_check, yields_pure]
  intro _ _ hk
  exact h.putFolio (h.caps_eq ▸ hk) _

theorem Fits.amendFolio (h : s.Fits st) (p : List Byte) : YieldsFit st (Machine.amendFolio p s) := by
  simp only [Machine.amendFolio, YieldsFit, yields_bind, yields_need, yields_check, yields_pure]
  intro _ _ _ _ f hf _
  exact h.putFolio (h.namedFolio_lt hf) _

/-- A posting names a folio. -/
theorem postable_named (p : List Byte) (s : State) :
    Yields (postable p s) (fun f => s.namedFolio (u16 p 0) = some f) := by
  simp only [postable, yields_bind, yields_need, yields_check, yields_pure]
  intro _ f hf _
  exact hf

theorem Fits.postPayment (h : s.Fits st) (p : List Byte) : YieldsFit st (Machine.postPayment p s) := by
  simp only [Machine.postPayment, YieldsFit, yields_bind, yields_check, yields_pure]
  exact (postable_named p s).mono fun f hf _ => h.putFolio (h.namedFolio_lt hf) _

theorem Fits.postCharge (h : s.Fits st) (p : List Byte) : YieldsFit st (Machine.postCharge p s) := by
  simp only [Machine.postCharge, YieldsFit, yields_bind, yields_check, yields_pure]
  exact (postable_named p s).mono fun f hf _ => h.putFolio (h.namedFolio_lt hf) _

theorem Fits.settleFolio (h : s.Fits st) (p : List Byte) : YieldsFit st (Machine.settleFolio p s) := by
  simp only [Machine.settleFolio, YieldsFit, yields_bind, yields_need, yields_check, yields_ite, yields_pure]
  intro f hf _ _ _
  exact ⟨fun _ => h.freeFolio _, fun _ => h.putFolio (h.namedFolio_lt hf) _⟩

theorem Fits.setOutlet (h : s.Fits st) (p : List Byte) : YieldsFit st (Machine.setOutlet p s) := by
  simp only [Machine.setOutlet, YieldsFit, yields_bind, yields_need, yields_pure]
  intro k
  intros
  exact h.putOutlet k.isLt _

theorem Fits.releaseFolioHolds (h : s.Fits st) (p : List Byte) : YieldsFit st (Machine.releaseFolioHolds p s) := by
  simp only [Machine.releaseFolioHolds, YieldsFit, yields_bind, yields_need, yields_pure]
  intro f _
  exact h.releaseHolds f.holds

/-! #### The clock and the posts -/

theorem Fits.shiftLocalTime (h : s.Fits st) (p : List Byte) : YieldsFit st (Machine.shiftLocalTime p s) := by
  simp only [Machine.shiftLocalTime, YieldsFit, yields_bind, yields_check, yields_pure]
  intro _ _
  unfold State.shiftMinute
  dsimp only
  split
  · exact Fits.attemptRollover (s := s.withClock _) h
  · exact h

end State

end Sys2Proof.Machine
end

section
/-! The decisions on field requests and their tables; then every command and event, and the step (TablesStaySound). -/

namespace Sys2Proof.Machine

/-! ### What the tests of a decision find -/

/-- The guest that a resolved card names is ENROLLED. -/
theorem guestOf_enrolled (s : State) (c : Resolution) :
    Yields (s.guestOf c) (fun x => s.guestAt x.1 = some x.2) := by
  unfold State.guestOf
  split
  · split
    · exact yields_ok.2 ‹_›
    · exact yields_error
  · exact yields_error
  · exact yields_error

theorem tallyGuest_enrolled (card : Presentation) (s : State) :
    Yields (tallyGuest card s) (fun x => s.guestAt x.1 = some x.2) := by
  simp only [tallyGuest, yields_bind, yields_test, yields_pure]
  exact fun c _ => (guestOf_enrolled s c).mono fun _ hx _ => hx

theorem gateTests_enrolled (n : Fin 4) (r : Request) (s : State) :
    Yields (gateTests n r s) (fun x => s.guestAt x.guestIndex = some x.guest) := by
  simp only [gateTests, yields_bind, yields_test, yields_demand]
  intro _ post _ _
  refine (tallyGuest_enrolled _ s).mono fun x hx _ => ?_
  split
  · exact yields_error
  · split
    · exact yields_pure.2 hx
    · exact yields_error

theorem musterTests_enrolled (n : Fin 4) (r : Request) (s : State) :
    Yields (musterTests n r s) (fun x => s.guestAt x.2.1 = some x.2.2) := by
  simp only [musterTests, yields_bind, yields_test, yields_demand, yields_pure]
  exact fun _ _ _ _ => tallyGuest_enrolled _ s

theorem decodeOnLane_decodes (st : Store) (n : Fin 4) (c : CabinCode) :
    Yields (st.decodeOnLane n c) (fun x => st.decode c = some x) := by
  simp only [Store.decodeOnLane, yields_bind, yields_demand, yields_test, yields_pure]
  exact fun _ hx _ _ _ => hx

/-- The slot that a new hold is given is one of the 256. -/
theorem State.Fits.allocateHold_lt {st : Store} {s : State} {k : Nat} (h : s.Fits st) (hk : s.allocateHold = some k) :
    k < 256 := by
  unfold State.allocateHold at hk
  split at hk
  · rename_i j hj
    exact Option.some.inj hk ▸ List.mem_range.1 (List.mem_of_find?_eq_some hj)
  · exact h.lapsed k (List.mem_of_mem_head? hk)

theorem u8_lt (p : List Byte) (k : Nat) : u8 p k < 256 := (byteAt p k).isLt

namespace State

variable {st : Store} {s : State}

/-! ### Decisions -/

theorem Fits.passGate (h : s.Fits st) {x : Passage} (hx : x.guestIndex < st.caps.guests) : (s.passGate x).Fits st := by
  simpa [State.passGate, State.Fits, tables_markGroup] using h.movePresence hx _ x.presence

theorem Fits.correctAtReader {k : Nat} (h : s.Fits st) (hk : k < st.caps.guests) (g : Guest) :
    (s.correctAtReader k g).Fits st := by
  unfold State.correctAtReader
  split
  · exact h.correctPresence hk g
  · exact h

theorem Fits.musterGuest {k : Nat} (h : s.Fits st) (hk : k < st.caps.guests) (g : Guest) :
    (s.musterGuest k g).Fits st := by
  simpa [State.musterGuest, State.Fits] using h.putGuest hk _

theorem Fits.musterTap {k : Nat} (h : s.Fits st) (hk : k < st.caps.guests) (n : Fin 16) (g : Guest) :
    (s.musterTap n k g).state.Fits st := by
  unfold State.musterTap
  dsimp only
  split
  · exact h.correctAtReader hk g
  · exact (h.correctAtReader hk g).musterGuest hk _

theorem Fits.admitOccupant (h : s.Fits st) (i k : Nat) : Yields (s.admitOccupant i k) (fun x => x.state.Fits st) := by
  unfold State.admitOccupant
  split
  · exact yields_error
  · rename_i g hg
    split
    · split
      · exact yields_error
      · exact yields_ok.2 h
      · exact yields_ok.2 (h.correctPresence (h.guest_lt hg) g)
      · exact yields_ok.2 (h.correctPresence (h.guest_lt hg) g)
    · exact yields_error

theorem Fits.admitByClass (h : s.Fits st) (deck i : Nat) (c : Resolution) :
    Yields (s.admitByClass deck i c) (fun x => x.state.Fits st) := by
  simp only [State.admitByClass, yields_bind, yields_test]
  intro _
  split
  · exact h.admitOccupant i _
  · simp only [State.admitService, yields_bind, yields_test, yields_pure]
    exact fun _ _ _ => h
  · exact yields_ok.2 h

theorem Fits.admitCard (h : s.Fits st) (deck i : Nat) (c : Resolution) :
    Yields (s.admitCard deck i c) (fun x => x.state.Fits st) := by
  unfold State.admitCard
  split
  · exact yields_ok.2 h
  · simp only [yields_bind, yields_test, yields_ite]
    exact fun _ _ _ => ⟨fun _ => yields_ok.2 h, fun _ => h.admitByClass _ _ _⟩

theorem Fits.decideEntry (h : s.Fits st) (n : Fin 4) (r : Request) : (decideEntry n r s).state.Fits st := by
  refine decided_keeps h ?_
  simp only [yields_bind, yields_test]
  exact fun _ _ _ c _ => h.admitCard _ _ c

theorem Fits.decidePrivacy (h : s.Fits st) (n : Fin 4) (r : Request) : (decidePrivacy n r s).state.Fits st := by
  refine decided_keeps h ?_
  simp only [privacyTests, yields_bind, yields_test, yields_pure]
  intro _
  refine (decodeOnLane_decodes s.store n _).mono fun place hp _ => h.putCabin fun _ => ?_
  have hst : s.store = st := h.store
  exact hst ▸ Store.decode_lt hp

theorem Fits.decideCharge (h : s.Fits st) (n : Fin 4) (r : Request) : (decideCharge n r s).state.Fits st := by
  refine decided_keeps h ?_
  simp only [yields_bind, yields_pure]
  exact fun _ _ => h.postTotal _ _ _

theorem Fits.decideBalance (h : s.Fits st) (n : Fin 4) (r : Request) : (decideBalance n r s).state.Fits st := by
  refine decided_keeps h ?_
  simp only [yields_bind, yields_pure]
  exact fun _ _ => h

theorem Fits.decideAuthorise (h : s.Fits st) (n : Fin 4) (r : Request) : (decideAuthorise n r s).state.Fits st := by
  refine decided_keeps h ?_
  simp only [authoriseTests, yields_bind, yields_test, yields_demand, yields_pure]
  exact fun _ _ _ _ _ k hk => h.createHold (h.allocateHold_lt hk) _

theorem Fits.decideComplete (h : s.Fits st) (n : Fin 4) (r : Request) : (decideComplete n r s).state.Fits st := by
  refine decided_keeps h ?_
  simp only [yields_bind, yields_pure]
  exact fun _ _ => (h.endHold (u8_lt _ _) _).postTotal _ _ _

theorem Fits.decideVoid (h : s.Fits st) (n : Fin 4) (r : Request) : (decideVoid n r s).state.Fits st := by
  refine decided_keeps h ?_
  simp only [yields_bind, yields_pure]
  exact fun _ _ => h.endHold (u8_lt _ _) _

theorem Fits.decideGate (h : s.Fits st) (n : Fin 4) (r : Request) : (decideGate n r s).state.Fits st := by
  refine decided_keeps h ?_
  simp only [yields_bind, yields_pure]
  exact (gateTests_enrolled n r s).mono fun x hx => h.passGate (h.guest_lt hx)

theorem Fits.decideMuster (h : s.Fits st) (n : Fin 4) (r : Request) : (decideMuster n r s).state.Fits st := by
  refine decided_keeps h ?_
  simp only [yields_bind, yields_pure]
  exact (musterTests_enrolled n r s).mono fun x hx => h.musterTap (h.guest_lt hx) _ _

/-! ### The store controller's own changes -/

/-- A scrub empties every table that it does not leave alone, so the store may be any. -/
theorem Fits.scrub (h : s.Fits st) (x : Store) : ((s.withStore x).scrub).Fits { x with scrub := some 0 } :=
  { store := rfl, guests := .nil _, cards := .nil _, folios := .nil _, cabins := .nil _ _, outlets := h.outlets
    slots := .nil _ _, lapsed := by simp [State.tables, State.scrub], posts := h.posts, keys := h.keys }

theorem Fits.changeScrub (h : s.Fits st) (x : Option Nat) :
    (s.withStore { s.store with scrub := x }).Fits { st with scrub := x } := by
  have hst : s.store = st := h.store
  subst hst
  exact { h with store := rfl }

end State

theorem Store.Valid.changeScrub {st : Store} (h : st.Valid) (x : Option Nat) :
    ({ st with scrub := x } : Store).Valid := h

/-- Outside BLANK the validity does not turn on the part state. -/
theorem Store.Valid.changePart {st : Store} {q : PartState} (h : st.Valid) (hp : st.part ≠ .blank) (hq : q ≠ .blank) :
    ({ st with part := q } : Store).Valid := by
  obtain ⟨hpart, hplan⟩ := h
  rw [if_neg hp] at hpart
  exact ⟨by rw [if_neg hq]; exact hpart, hplan⟩

/-- The partition that CONFIGURE_STORE grants, with its empty deck map. -/
theorem Store.valid_configured {st : Store} {r g : Capacities} (h : st.Valid) (hg : grantAll r = some g) :
    ({ st with part := .setup, caps := g, deckMap := Vector.replicate 20 DeckSlot.empty } : Store).Valid := by
  obtain ⟨hu, hc, hgu, hf, hk⟩ := grantAll_bounds hg
  obtain ⟨-, -, -, hlanes⟩ := h
  refine ⟨⟨hk, hu, hc, hgu, hf⟩, fun k hn => absurd (by rw [cell_replicate]; rfl) hn, ?_, hlanes⟩
  rw [Store.cabinCount_eq]
  simp [DeckSlot.empty]

/-- A deck map slot written as SET_DECK's tests allow keeps the deck map sound. -/
theorem Store.DeckMapSound.putCell {st : Store} (h : st.DeckMapSound) {k : Fin 20} {d : DeckSlot}
    (hd : d.count ≠ 0 → 1 ≤ d.deck ∧ d.deck ≤ 20 ∧ d.first + d.count ≤ 1000)
    (hu : d.count ≠ 0 → ∀ m, m ≠ k → (cell st.deckMap m).count ≠ 0 → (cell st.deckMap m).deck ≠ d.deck) :
    ({ st with deckMap := putCell st.deckMap k d } : Store).DeckMapSound := by
  intro j hj
  dsimp only at hj ⊢
  by_cases hjk : j = k
  · subst hjk
    rw [cell_putCell_self] at hj ⊢
    obtain ⟨h1, h2, h3⟩ := hd hj
    refine ⟨h1, h2, h3, fun m hm hn => ?_⟩
    rw [cell_putCell_ne _ (Ne.symm hm)] at hn ⊢
    exact hu hj m hm hn
  · rw [cell_putCell_ne _ (Ne.symm hjk)] at hj ⊢
    obtain ⟨h1, h2, h3, h4⟩ := h j hj
    refine ⟨h1, h2, h3, fun m hm hn => ?_⟩
    by_cases hmk : m = k
    · subst hmk
      rw [cell_putCell_self] at hn ⊢
      exact Ne.symm (hu hn j hjk hj)
    · rw [cell_putCell_ne _ (Ne.symm hmk)] at hn ⊢
      exact h4 m hm hn

theorem configureStore_sound {s : State} (h : s.TablesSound) (p : List Byte) :
    Yields (configureStore p s) (fun x => x.1.TablesSound) := by
  simp only [configureStore, yields_bind, yields_need, yields_check, yields_pure]
  intro _ g hg
  obtain ⟨hfit, hv⟩ := tablesSound_iff.1 h
  exact tablesSound_iff.2 ⟨hfit.scrub _, (Store.valid_configured hv hg).changeScrub (some 0)⟩

theorem endVoyage_sound {s : State} (h : s.TablesSound) (hp : s.store.part = .inVoyage) (p : List Byte) :
    Yields (endVoyage p s) (fun x => x.1.TablesSound) := by
  simp only [endVoyage, yields_bind, yields_check, yields_pure]
  intro _ _ _ _
  obtain ⟨hfit, hv⟩ := tablesSound_iff.1 h
  exact tablesSound_iff.2 ⟨hfit.scrub _, (hv.changePart (by simp [hp]) (by simp)).changeScrub (some 0)⟩

theorem lockVoyage_sound {s : State} (h : s.TablesSound) (hp : s.store.part = .setup) (p : List Byte) :
    Yields (lockVoyage p s) (fun x => x.1.TablesSound) := by
  simp only [lockVoyage, yields_bind, yields_check, yields_pure]
  intro _
  obtain ⟨hfit, hv⟩ := tablesSound_iff.1 h
  exact tablesSound_iff.2 ⟨{ hfit with store := rfl }, hv.changePart (by simp [hp]) (by simp)⟩

theorem setLaneDecks_sound {s : State} (h : s.TablesSound) (p : List Byte) :
    Yields (setLaneDecks p s) (fun x => x.1.TablesSound) := by
  simp only [setLaneDecks, yields_bind, yields_need, yields_check, yields_pure]
  intro n _ ⟨hlow, hhigh, hzero, hle⟩
  obtain ⟨hfit, hpart, hmap, hcount, hlanes⟩ := tablesSound_iff.1 h
  refine tablesSound_iff.2 ⟨{ hfit with store := rfl }, hpart, hmap, hcount, fun m r hr => ?_⟩
  simp only [State.withStore_store] at hr
  by_cases hmn : n = m
  · subst hmn
    rw [cell_putCell_self] at hr
    split at hr
    · simp at hr
    · obtain rfl := Option.some.inj hr
      dsimp only
      omega
  · rw [cell_putCell_ne _ hmn] at hr
    exact hlanes m r hr

theorem setDeck_sound {s : State} (h : s.TablesSound) (p : List Byte) :
    Yields (setDeck p s) (fun x => x.1.TablesSound) := by
  simp only [setDeck, yields_bind, yields_need, yields_check, yields_pure]
  intro k _ ⟨_, hrange⟩ _ _ hheld hcap
  obtain ⟨hfit, hpart, hmap, hcount, hlanes⟩ := tablesSound_iff.1 h
  have hvalue : (readSetDeck p).value.count ≠ 0 → (readSetDeck p).count ≠ 0
      ∧ (readSetDeck p).value = ⟨(readSetDeck p).deck, (readSetDeck p).first, (readSetDeck p).count⟩ := by
    unfold SetDeckFields.value
    split
    · exact fun hn => absurd rfl hn
    · exact fun hn => ⟨hn, rfl⟩
  refine tablesSound_iff.2 ⟨{ hfit with store := rfl, cabins := .nil _ _ }, hpart, hmap.putCell ?_ ?_, hcap, hlanes⟩
  · intro hn
    obtain ⟨hn, hv⟩ := hvalue hn
    rw [hv]
    exact hrange hn
  · intro hn m hm hmn
    obtain ⟨hn, hv⟩ := hvalue hn
    have := List.all_eq_true.1 (hheld hn) m (List.mem_finRange m)
    simpa [hm, hmn, hv] using this

/-! ### The post table -/

/-- A post table after a post is listed at a free entry. -/
theorem put_perm {α : Type} {t : Table α} {k : Nat} (hk : Table.find t k = none) (a : α) :
    (Table.put t k a).Perm ((k, a) :: t) := by
  induction t with
  | nil => exact .refl _
  | cons e t ih =>
    obtain ⟨i, b⟩ := e
    simp only [Table.find] at hk
    split at hk
    · simp at hk
    · simp only [Table.put]
      split
      · exact .refl _
      · rw [if_neg (Ne.symm ‹_›)]
        exact ((ih hk).cons _).trans (.swap _ _ _)

theorem erase_sublist {α : Type} (t : Table α) (k : Nat) : (Table.erase t k).Sublist t := by
  induction t with
  | nil => exact .refl _
  | cons e t ih =>
    simp only [Table.erase]
    split
    · exact List.sublist_cons_self _ _
    · exact ih.cons_cons _

namespace State

variable {st : Store} {s : State}

theorem Fits.addPost (h : s.Fits st) (p : List Byte) : YieldsFit st (Machine.addPost p s) := by
  simp only [Machine.addPost, YieldsFit, yields_bind, yields_need, yields_check, yields_pure]
  rintro ⟨lane, terminal⟩ _ kind _ hfree hk
  have hperm := put_perm (Table.lowestFree_spec h.posts.1 0 fun _ _ => Nat.zero_le _).1
    (⟨lane, terminal, kind⟩ : Post)
  refine { h with posts := h.posts.put hk _, keys := ?_ }
  refine (hperm.map _).nodup_iff.2 (List.nodup_cons.2 ⟨fun hm => ?_, h.keys⟩)
  obtain ⟨e, he, heq⟩ := List.mem_map.1 hm
  obtain ⟨hlane, hterminal⟩ := Prod.mk.inj heq
  exact List.find?_eq_none.1 hfree e he (by simp [hlane, hterminal])

theorem Fits.removePost (h : s.Fits st) (p : List Byte) : YieldsFit st (Machine.removePost p s) := by
  simp only [Machine.removePost, YieldsFit, yields_bind, yields_need, yields_pure]
  intro _ _ e _
  exact { h with posts := h.posts.erase _, keys := h.keys.sublist ((erase_sublist _ _).map _) }

end State

end Sys2Proof.Machine
end

section
/-! Every command and event, and every step, keeps the tables sound (TablesStaySound): the commands of the store
controller by the store they leave, every other one by leaving tables that fit the store as it stands. -/

namespace Sys2Proof.Machine

theorem tablesSound_linkFree : LinkFree State.TablesSound := fun _ _ _ _ h => h

/-- A LOCK command is admitted in SETUP alone (R2). -/
theorem lock_admits {p : PartState} (h : CommandClass.lock.refusal p = none) : p = .setup := by
  cases p <;> simp_all [CommandClass.refusal]

/-- A FINISH command is admitted in IN_VOYAGE alone (R2). -/
theorem finish_admits {p : PartState} (h : CommandClass.finish.refusal p = none) : p = .inVoyage := by
  cases p <;> simp_all [CommandClass.refusal]

/-- A RECORD command is not admitted in BLANK (R2). -/
theorem record_admits {p : PartState} (h : CommandClass.record.refusal p = none) : p ≠ .blank := by
  cases p <;> simp_all [CommandClass.refusal]

namespace State

variable {s : State}

theorem TablesSound.of_tables {t : State} (hs : s.TablesSound) (h : t.tables = s.tables) : t.TablesSound :=
  hs.of_fits (show Tables.Fit _ _ from h ▸ (tablesSound_iff.1 hs).1)

/-- A command whose body leaves tables that fit. -/
theorem TablesSound.ofBody (hs : s.TablesSound) {c : Command} {f : HostFrame}
    {body : List Byte → State → Verdict (State × List Byte)} (hb : YieldsFit s.store (body f.payload s)) :
    (hostCommand c f body s).TablesSound :=
  hs.of_fits (hostCommand_keeps (fits_linkFree _) (tablesSound_iff.1 hs).1 fun _ => hb)

/-- A command whose body spares the tables. -/
theorem TablesSound.ofSparing (hs : s.TablesSound) {c : Command}
    {body : List Byte → State → Verdict (State × List Byte)} (hb : SparesTables body) (f : HostFrame) :
    (hostCommand c f body s).TablesSound :=
  hs.ofBody ((tablesSound_iff.1 hs).1.of_sparesTables hb f.payload)

/-- A take whose decision leaves tables that fit. -/
theorem TablesSound.ofDecision (hs : s.TablesSound) {k : RequestKind} {n : Fin 4} {decide : Request → State → Decided}
    (hd : ∀ r, (decide r s).state.Fits s.store) : (takeRequest k n decide s).TablesSound :=
  hs.of_fits (takeRequest_keeps (fun _ _ _ h => h) (tablesSound_iff.1 hs).1 hd)

/-- An event that is a second arrival when its condition holds. -/
theorem TablesSound.ofArrival (hs : s.TablesSound) (p : Prop) [Decidable p] :
    (if p then s.arriveSecond else s).TablesSound := by
  split
  · exact hs.of_fits (tablesSound_iff.1 hs).1.arriveSecond
  · exact hs

theorem TablesSound.cards_pos (hs : s.TablesSound) (hp : s.store.part ≠ .blank) : 0 < s.store.caps.cards := by
  obtain ⟨-, hpart, -⟩ := tablesSound_iff.1 hs
  rw [if_neg hp] at hpart
  have := hpart.1
  simp only [List.mem_cons, List.not_mem_nil, or_false] at this
  omega

/-- The SCRUBBING flag has no part in the tables. -/
theorem TablesSound.changeScrub (hs : s.TablesSound) (x : Option Nat) :
    (s.withStore { s.store with scrub := x }).TablesSound := hs

theorem TablesSound.completeScrub (hs : s.TablesSound) : s.completeScrub.TablesSound := by
  unfold State.completeScrub
  dsimp only
  split <;> exact hs.changeScrub none

end State

theorem reset_tablesSound : State.reset.TablesSound := by
  refine tablesSound_iff.2 ⟨⟨rfl, .nil _, .nil _, .nil _, .nil _ _, .nil _ _, .nil _ _, by decide, .nil _, .nil⟩,
    rfl, fun k hk => ?_, ?_, fun n r hr => ?_⟩
  · exact absurd (by simp only [State.reset, cell_replicate]; rfl) hk
  · simp [State.reset, Store.cabinCount_eq, DeckSlot.empty]
  · simp [State.reset] at hr

theorem coldStart_tablesSound (s : State) : s.coldStart.TablesSound := reset_tablesSound

/-- Every command and event keeps the tables sound. -/
theorem exec_tablesSound {s : State} (hs : s.TablesSound) (c : Instr) :
    ∃ t, exec c s = .next t ∧ t.TablesSound := by
  have hfit := (tablesSound_iff.1 hs).1
  cases c with
  | coldStart => exact ⟨_, rfl, coldStart_tablesSound s⟩
  | warmStart => exact ⟨_, rfl, hs.changeScrub _⟩
  | scrubComplete =>
    refine ⟨_, rfl, ?_⟩
    split
    · exact hs.completeScrub
    · exact hs
  | shortTransaction bytes => exact ⟨_, rfl, hs⟩
  | unknownCommandFrame code f =>
    refine ⟨_, rfl, ?_⟩
    split
    · exact hs
    · unfold unknownCommand
      split <;> exact hs
  | status x => exact ⟨_, rfl, hs⟩
  | fetch x =>
    refine ⟨_, rfl, ?_⟩
    unfold Machine.fetch
    split
    · dsimp only
      split <;> exact hs
    · exact hs
    · exact hs
  | configureStore f =>
    exact ⟨_, rfl, scrubCommand_keeps tablesSound_linkFree hs fun _ => configureStore_sound hs _⟩
  | readStore f => exact ⟨_, rfl, hs.ofSparing readStore_readsOnly.sparesTables f⟩
  | lockVoyage f =>
    exact ⟨_, rfl, hostCommand_keeps tablesSound_linkFree hs fun h => lockVoyage_sound hs (lock_admits h) _⟩
  | endVoyage f =>
    exact ⟨_, rfl, scrubCommand_keeps tablesSound_linkFree hs fun h => endVoyage_sound hs (finish_admits h) _⟩
  | setDeck f => exact ⟨_, rfl, hostCommand_keeps tablesSound_linkFree hs fun _ => setDeck_sound hs _⟩
  | setLaneDecks f => exact ⟨_, rfl, hostCommand_keeps tablesSound_linkFree hs fun _ => setLaneDecks_sound hs _⟩
  | issueCard f =>
    exact ⟨_, rfl, hostCommand_keeps tablesSound_linkFree hs fun h =>
      (hfit.issueCard (hs.cards_pos (record_admits h)) _).mono fun _ hx => hs.of_fits hx⟩
  | reissueCard f => exact ⟨_, rfl, hs.ofBody (hfit.reissueCard f.payload)⟩
  | suspendCard f => exact ⟨_, rfl, hs.ofBody (hfit.suspendCard f.payload)⟩
  | restoreCard f => exact ⟨_, rfl, hs.ofBody (hfit.restoreCard f.payload)⟩
  | retireCard f => exact ⟨_, rfl, hs.ofBody (hfit.retireCardCommand f.payload)⟩
  | readCard f => exact ⟨_, rfl, hs.ofSparing readCard_readsOnly.sparesTables f⟩
  | enrolGuest f => exact ⟨_, rfl, hs.ofBody (hfit.enrolGuest f.payload)⟩
  | amendGuest f => exact ⟨_, rfl, hs.ofBody (hfit.amendGuest f.payload)⟩
  | departGuest f => exact ⟨_, rfl, hs.ofBody (hfit.departGuest f.payload)⟩
  | retireGuest f => exact ⟨_, rfl, hs.ofBody (hfit.retireGuest f.payload)⟩
  | lookupGuest f => exact ⟨_, rfl, hs.ofSparing lookupGuest_readsOnly.sparesTables f⟩
  | readGuest f => exact ⟨_, rfl, hs.ofSparing readGuest_readsOnly.sparesTables f⟩
  | findGuests f => exact ⟨_, rfl, hs.ofSparing findGuests_readsOnly.sparesTables f⟩
  | setCabin f => exact ⟨_, rfl, hs.ofBody (hfit.setCabin f.payload)⟩
  | setOverride f => exact ⟨_, rfl, hs.ofSparing setOverride_sparesTables f⟩
  | clearOverride f => exact ⟨_, rfl, hs.ofSparing clearOverride_sparesTables f⟩
  | readOverrides f => exact ⟨_, rfl, hs.ofSparing readOverrides_readsOnly.sparesTables f⟩
  | readCabin f => exact ⟨_, rfl, hs.ofSparing readCabin_readsOnly.sparesTables f⟩
  | openFolio f => exact ⟨_, rfl, hs.ofBody (hfit.openFolio f.payload)⟩
  | amendFolio f => exact ⟨_, rfl, hs.ofBody (hfit.amendFolio f.payload)⟩
  | postPayment f => exact ⟨_, rfl, hs.ofBody (hfit.postPayment f.payload)⟩
  | postCharge f => exact ⟨_, rfl, hs.ofBody (hfit.postCharge f.payload)⟩
  | settleFolio f => exact ⟨_, rfl, hs.ofBody (hfit.settleFolio f.payload)⟩
  | readFolio f => exact ⟨_, rfl, hs.ofSparing readFolio_readsOnly.sparesTables f⟩
  | setCurrency f => exact ⟨_, rfl, hs.ofSparing setCurrency_sparesTables f⟩
  | readCurrencies f => exact ⟨_, rfl, hs.ofSparing readCurrencies_readsOnly.sparesTables f⟩
  | setOutlet f => exact ⟨_, rfl, hs.ofBody (hfit.setOutlet f.payload)⟩
  | readOutlet f => exact ⟨_, rfl, hs.ofSparing readOutlet_readsOnly.sparesTables f⟩
  | releaseFolioHolds f => exact ⟨_, rfl, hs.ofBody (hfit.releaseFolioHolds f.payload)⟩
  | readHold f => exact ⟨_, rfl, hs.ofSparing readHold_readsOnly.sparesTables f⟩
  | setGangway f => exact ⟨_, rfl, hs.ofSparing setGangway_sparesTables f⟩
  | setPresence f => exact ⟨_, rfl, hs.ofBody (hfit.setPresence f.payload)⟩
  | setTallyWatch f => exact ⟨_, rfl, hs.ofSparing setTallyWatch_sparesTables f⟩
  | setWatchGroups f => exact ⟨_, rfl, hs.ofSparing setWatchGroups_sparesTables f⟩
  | readTallies f => exact ⟨_, rfl, hs.ofSparing readTallies_readsOnly.sparesTables f⟩
  | setAlarmInput f => exact ⟨_, rfl, hs.ofSparing setAlarmInput_sparesTables f⟩
  | startMuster f => exact ⟨_, rfl, hs.ofBody (hfit.startMusterCommand f.payload)⟩
  | setLockdown f => exact ⟨_, rfl, hs.ofSparing setLockdown_sparesTables f⟩
  | stopCharging f => exact ⟨_, rfl, hs.ofSparing stopCharging_sparesTables f⟩
  | endMuster f => exact ⟨_, rfl, hs.ofSparing endMuster_sparesTables f⟩
  | clearLockdown f => exact ⟨_, rfl, hs.ofSparing clearLockdown_sparesTables f⟩
  | resumeCharging f => exact ⟨_, rfl, hs.ofSparing resumeCharging_sparesTables f⟩
  | setStations f => exact ⟨_, rfl, hs.ofSparing setStations_sparesTables f⟩
  | readModes f => exact ⟨_, rfl, hs.ofSparing readModes_readsOnly.sparesTables f⟩
  | setClock f => exact ⟨_, rfl, hs.ofSparing setClock_sparesTables f⟩
  | shiftLocalTime f => exact ⟨_, rfl, hs.ofBody (hfit.shiftLocalTime f.payload)⟩
  | setRolloverMinute f => exact ⟨_, rfl, hs.ofSparing setRolloverMinute_sparesTables f⟩
  | readClock f => exact ⟨_, rfl, hs.ofSparing readClock_readsOnly.sparesTables f⟩
  | haltField f => exact ⟨_, rfl, hs.ofSparing haltField_sparesTables f⟩
  | resumeField f => exact ⟨_, rfl, hs.ofSparing resumeField_sparesTables f⟩
  | addPost f => exact ⟨_, rfl, hs.ofBody (hfit.addPost f.payload)⟩
  | removePost f => exact ⟨_, rfl, hs.ofBody (hfit.removePost f.payload)⟩
  | readPosts f => exact ⟨_, rfl, hs.ofSparing readPosts_readsOnly.sparesTables f⟩
  | readLanes f => exact ⟨_, rfl, hs.ofSparing readLanes_readsOnly.sparesTables f⟩
  | setNotices f => exact ⟨_, rfl, hs.ofSparing setNotices_sparesTables f⟩
  | clearNotices f => exact ⟨_, rfl, hs.ofSparing clearNotices_sparesTables f⟩
  | readNotices f => exact ⟨_, rfl, hs.ofSparing readNotices_readsOnly.sparesTables f⟩
  | requestFrame n bytes =>
    refine ⟨_, rfl, List.foldlRecOn (motive := State.TablesSound) bytes _ hs fun t ht b _ => ?_⟩
    exact ht.of_tables (State.tables_receiveByte t n b)
  | replyFrameComplete n =>
    refine ⟨_, rfl, ?_⟩
    split <;> exact hs
  | entry n => exact ⟨_, rfl, hs.ofDecision fun r => hfit.decideEntry n r⟩
  | privacy n => exact ⟨_, rfl, hs.ofDecision fun r => hfit.decidePrivacy n r⟩
  | charge n => exact ⟨_, rfl, hs.ofDecision fun r => hfit.decideCharge n r⟩
  | balance n => exact ⟨_, rfl, hs.ofDecision fun r => hfit.decideBalance n r⟩
  | authorise n => exact ⟨_, rfl, hs.ofDecision fun r => hfit.decideAuthorise n r⟩
  | complete n => exact ⟨_, rfl, hs.ofDecision fun r => hfit.decideComplete n r⟩
  | void n => exact ⟨_, rfl, hs.ofDecision fun r => hfit.decideVoid n r⟩
  | gate n => exact ⟨_, rfl, hs.ofDecision fun r => hfit.decideGate n r⟩
  | muster n => exact ⟨_, rfl, hs.ofDecision fun r => hfit.decideMuster n r⟩
  | alarmLevelChange n level => exact ⟨_, rfl, hs⟩
  | qualifiedAssertion n =>
    refine ⟨_, rfl, ?_⟩
    split
    · exact hs.of_fits (hfit.assertInput n)
    · exact hs
  | qualifiedRelease n =>
    refine ⟨_, rfl, ?_⟩
    split <;> exact hs
  | secondArrival => exact ⟨_, rfl, hs.ofArrival _⟩
  | minuteTick => exact ⟨_, rfl, hs.ofArrival _⟩
  | holdLapse => exact ⟨_, rfl, hs.ofArrival _⟩

/-- A period of the time base keeps the tables sound. -/
theorem tick_tablesSound {s : State} (hs : s.TablesSound) : s.tick.TablesSound := by
  have hclock := (tablesSound_iff.1 hs).1.tickClock
  have hinputs : ((List.finRange 4).foldl State.tickInput s.tickClock).TablesSound :=
    hs.of_fits (List.foldlRecOn (motive := State.Fits s.store) _ _ hclock fun _ ht n _ => ht.tickInput n)
  unfold State.tick State.tickScrub
  split
  · exact hinputs
  · split
    · exact hinputs.changeScrub _
    · exact hinputs.completeScrub

/-- Settles O53: a step is one command or event, or one period of the time base. -/
theorem tablesStaySound : Obligations.TablesStaySound := by
  intro s t hs hstep
  unfold step at hstep
  split at hstep
  · exact Host.Outcome.next.inj hstep ▸ tick_tablesSound hs
  · rename_i c rest _
    obtain ⟨t', ht, hsound⟩ := exec_tablesSound (s := s.withPending rest) hs c
    exact Host.Outcome.next.inj (ht.symm.trans hstep) ▸ hsound

end Sys2Proof.Machine
end

section
/-! The two starts, the end of a scrub and the state after a reset (R9, R16, R17, R134, R147, R155, R168, R174). -/

namespace Sys2Proof.Machine

theorem completeScrub_withheld {s : State} {r : Response} (h : s.link.slot = .scrubbing (some r)) :
    s.completeScrub = { s with
      store := { s.store with scrub := none }, link := { s.link with slot := .ready r }
      notice := { s.notice with flags := s.notice.flags ||| 1#13 } } := by
  simp only [State.completeScrub, State.withStore_link, h]
  rfl

theorem completeScrub_restarted {s : State} (h : s.link.slot = .scrubbing none) :
    s.completeScrub = { s with
      store := { s.store with scrub := none }, link := { s.link with slot := .empty } } := by
  simp only [State.completeScrub, State.withStore_link, h]
  rfl

theorem exec_scrubComplete (s : State) :
    exec .scrubComplete s = .next (if s.store.scrub.isSome then s.completeScrub else s) := rfl

/-- Settles O7, slot by slot. -/
theorem scrubCompletion : Obligations.ScrubCompletion := by
  intro s
  refine ⟨fun r hs hslot => ?_, fun hs hslot => ?_, fun hs => ?_⟩
  · rw [exec_scrubComplete, if_pos hs, completeScrub_withheld hslot]
  · rw [exec_scrubComplete, if_pos hs, completeScrub_restarted hslot]
  · rw [exec_scrubComplete, hs]; rfl

/-- Settles O6: the model's warm start writes the fields one block after the other. -/
theorem warmStartKeepsRecords : Obligations.WarmStartKeepsRecords := by
  intro s
  have hnotice : NoticeUnit.cold.raise .clockStopped
      = ⟨0x1000#13, 0, 0, 0, .single, .activeHigh, .activeHigh⟩ := by decide
  rw [← hnotice]
  rfl

/-- Settles O5, block by block. -/
theorem coldStartValues : Obligations.ColdStartValues := by
  intro s
  have hcurrencies : ∀ k : Fin 8, k ≠ 0 → cell State.reset.folio.currencies k = ⟨false, 10000, none⟩ := by decide
  have hinputs : ∀ n : Fin 4, s.coldStart.inputAt n = AlarmInput.cold (s.inputAt n).line := fun n => by
    simp [State.inputAt, State.coldStart, State.coldInputs, cell]
  have hwatches : ∀ n : Fin 2, cell State.reset.tally.watches n = Watch.cold := fun n => cell_replicate n _
  have hlanes : ∀ n : Fin 4, s.coldStart.laneAt n = Lane.cold := fun n => cell_replicate n _
  refine ⟨s.coldStart, rfl, rfl, rfl, rfl, rfl, rfl, rfl, rfl, hcurrencies, fun _ => rfl, fun _ => rfl, rfl, rfl, rfl,
    rfl, rfl, rfl, rfl, rfl, rfl, rfl, rfl, fun n => ?_, rfl, rfl, rfl, rfl, rfl, hinputs, rfl, rfl, rfl, rfl, rfl, rfl,
    rfl, fun n => ?_, rfl, rfl, rfl, rfl, rfl⟩
  · have : cell s.coldStart.tally.watches n = Watch.cold := hwatches n
    rw [this]
    exact ⟨rfl, rfl, rfl⟩
  · rw [hlanes n]
    exact ⟨rfl, rfl, rfl, rfl, rfl⟩

theorem reset_controlSound : State.reset.ControlSound := by
  refine ⟨fun n => ?_, rfl, by decide, fun n _ => ?_, fun m n _ a ha => ?_⟩
  · have : State.reset.laneAt n = Lane.cold := cell_replicate n _
    rw [this]
    decide
  · have : State.reset.inputAt n = AlarmInput.cold .low := cell_replicate n _
    rw [this]
    exact ⟨rfl, rfl⟩
  · simp [State.reset] at ha

theorem reset_talliesSound : State.reset.TalliesSound := by
  refine ⟨reset_tablesSound.1, fun _ => rfl, ⟨rfl, rfl, rfl, rfl, rfl, fun x => ?_⟩, fun x => ?_, rfl⟩
  · exact cell_replicate x 0
  · exact cell_replicate x 0

theorem reset_assignmentsSound : State.reset.AssignmentsSound := by
  refine ⟨reset_tablesSound.1, ⟨?_, ?_⟩, ?_, ?_⟩ <;> exact List.forall_mem_nil _

theorem reset_cardsSound : State.reset.CardsSound :=
  ⟨reset_tablesSound.1, List.forall_mem_nil _, ⟨rfl, rfl⟩, List.forall_mem_nil _, List.forall_mem_nil _⟩

theorem reset_ratesInRange : State.reset.RatesInRange := by
  refine ⟨List.forall_mem_nil _, fun k => ?_⟩
  have hlive : ∀ k : Fin 8, (cell State.reset.folio.currencies k).live = 10000
      ∧ (cell State.reset.folio.currencies k).staged = none := by decide
  obtain ⟨h1, h2⟩ := hlive k
  simp [h1, h2]

theorem reset_holdsSound : State.reset.HoldsSound := by
  obtain ⟨-, -, hclock, -⟩ := reset_controlSound
  exact ⟨reset_tablesSound.1, hclock, reset_ratesInRange, List.forall_mem_nil _, List.forall_mem_nil _,
    List.forall_mem_nil _, ⟨.nil, List.forall_mem_nil _, List.forall_mem_nil _⟩, List.forall_mem_nil _⟩

theorem reset_rangesSound : State.reset.RangesSound := by
  obtain ⟨-, -, hclock, -⟩ := reset_controlSound
  exact ⟨reset_tablesSound.1, hclock, ⟨by decide, List.forall_mem_nil _⟩, ⟨.nil, .nil⟩, rfl⟩

/-- Settles O51, group by group: after a reset every table is empty. -/
theorem resetIsSound : Obligations.ResetIsSound :=
  ⟨reset_controlSound, reset_tablesSound, reset_talliesSound, reset_assignmentsSound, reset_cardsSound,
    reset_holdsSound, reset_rangesSound⟩

end Sys2Proof.Machine
end

section
/-! The commands of the store controller that move the part state, write the deck map and write the lane ranges
(R4, R5, R10, R11, R13, R15), and the first test of every field decision (R8, R66, R160). -/

namespace Sys2Proof.Machine

/-! ### Commands that start a scrub, as the statements about `exec` say them -/

theorem next_scrub_done {c : Command} {tag : Byte} {p : List Byte}
    {body : List Byte → State → Verdict (State × List Byte)} {s t : State} {data : List Byte}
    (h0 : s.link.slot = .empty) (hc : c.length ≤ 120) (hp : p.length = c.length)
    (h4 : c.cls.refusal s.store.part = none) (hb : body p s = .ok (t, data)) :
    (.next (scrubCommand c (frameOf tag p) body s) : Host.Outcome State Fault Refusal)
      = .next (t.withheld c.code (frameOf tag p) data) :=
  congrArg Host.Outcome.next (scrubCommand_done h0 hc hp h4 hb)

theorem next_scrub_refused {c : Command} {tag : Byte} {p : List Byte}
    {body : List Byte → State → Verdict (State × List Byte)} {s : State} {r : Result} {data : List Byte}
    (h0 : s.link.slot = .empty) (hc : c.length ≤ 120) (hp : p.length = c.length)
    (h4 : c.cls.refusal s.store.part = none) (hb : body p s = .error (r, data)) :
    (.next (scrubCommand c (frameOf tag p) body s) : Host.Outcome State Fault Refusal)
      = .next (s.answered c.code (frameOf tag p) r data) :=
  congrArg Host.Outcome.next (scrubCommand_refused h0 hc hp h4 hb)

/-! ### CONFIGURE_STORE, LOCK_VOYAGE and END_VOYAGE -/

/-- The statements' `scrubbed` is the scrub of the model, in any store. -/
theorem scrub_withStore (s : State) (x : Store) : (s.withStore x).scrub = s.scrubbed x := rfl

theorem recordsEmpty_iff {s : State} : s.recordsEmpty = true ↔
    s.roster.guests = [] ∧ (∀ e ∈ s.cards.slots, e.2 = .retired) ∧ s.folio.folios = [] := by
  have hslot : ∀ x : CardSlot, (!x.isInUse) = true ↔ x = .retired := fun x => by cases x <;> simp [CardSlot.isInUse]
  simp only [State.recordsEmpty, Bool.and_eq_true, List.isEmpty_iff, List.all_eq_true, hslot, and_assoc]

/-- CONFIGURE_STORE reads the four requests that its frame carries. -/
theorem readConfigureStore_encoded {r : Capacities} (hc : r.cabins < 65536) (hg : r.guests < 65536)
    (hf : r.folios < 65536) (hk : r.cards < 65536) :
    readConfigureStore (e16 r.cabins ++ e16 r.guests ++ e16 r.folios ++ e16 r.cards) = r := by
  simp [readConfigureStore, List.append_assoc, Nat.mod_eq_of_lt, *]

theorem configureStore_ok {s : State} {p : List Byte} {g : Capacities}
    (he : s.store.part = .setup → s.recordsEmpty = true) (hg : grantAll (readConfigureStore p) = some g) :
    configureStore p s = .ok (s.scrubbed { s.store with
      part := .setup, caps := g, deckMap := Vector.replicate 20 DeckSlot.empty }, eCapacities g) := by
  simp only [configureStore, check_of he, hg, need_some, ok_bind, ← scrub_withStore]
  rfl

theorem configureStore_notEmpty {s : State} (p : List Byte) (hp : s.store.part = .setup) (he : s.recordsEmpty ≠ true) :
    configureStore p s = .error (.notEmpty, []) := by
  simp only [configureStore, check_not (fun h : s.store.part = .setup → s.recordsEmpty = true => he (h hp)), error_bind]

theorem configureStore_capacity {s : State} {p : List Byte} (he : s.store.part = .setup → s.recordsEmpty = true)
    (hg : grantAll (readConfigureStore p) = none) : configureStore p s = .error (.capacity, []) := by
  simp only [configureStore, check_of he, hg, need_none, ok_bind, error_bind]

theorem lockVoyage_ok {s : State} (p : List Byte) (h : s.store.cabinCount ≠ 0) :
    lockVoyage p s = .ok ({ s with store := { s.store with part := .inVoyage } }, []) := by
  simp only [lockVoyage, check_of h, ok_bind]
  rfl

theorem lockVoyage_notFound {s : State} (p : List Byte) (h : s.store.cabinCount = 0) :
    lockVoyage p s = .error (.notFound, []) := by
  simp only [lockVoyage, check_not (not_not_intro h), error_bind]

/-- The tests of END_VOYAGE on the records, as R11 words them. -/
theorem settled_iff {s : State} : s.folio.folios.all (fun e => e.2.state == .closed) = true
    ↔ ∀ e ∈ s.folio.folios, e.2.state = .closed := by
  simp only [List.all_eq_true, beq_iff_eq]

theorem gone_iff {s : State} : s.roster.guests.all (fun e => !e.2.isUnderway) = true
    ↔ ∀ e ∈ s.roster.guests, e.2.presence ≠ .aboard ∧ e.2.presence ≠ .ashore := by
  simp [List.all_eq_true, Guest.isUnderway]

theorem noHolds_iff {s : State} : s.hold.slots.all (fun e => !e.2.isActive) = true
    ↔ ∀ e ∈ s.hold.slots, e.2.activeHold = none := by
  have hslot : ∀ x : HoldSlot, (!x.isActive) = true ↔ x.activeHold = none := fun x => by
    cases h : x.status <;> simp [HoldSlot.isActive, HoldSlot.activeHold, h]
  simp only [List.all_eq_true, hslot]

/-- Settles O15: the tests of R4, R10 and R11 in their order, then the scrub. -/
theorem partStateCommands : Obligations.PartStateCommands := by
  intro s tag h0
  refine ⟨fun r hpart hc hg hf hk => ?_, ?_, ?_, fun hpart => ?_⟩
  · have hread := readConfigureStore_encoded hc hg hf hk
    have hadmit : CommandClass.configure.refusal s.store.part = none := by
      cases hp : s.store.part <;> simp_all [CommandClass.refusal]
    refine ⟨fun he g hgrant => ?_, fun he hgrant => ?_, fun hp he => ?_⟩
    · exact next_scrub_done (c := cmdConfigureStore) h0 (by decide) rfl hadmit
        (configureStore_ok (fun hp => recordsEmpty_iff.2 (he hp)) (by rw [hread]; exact hgrant))
    · exact next_scrub_refused (c := cmdConfigureStore) h0 (by decide) rfl hadmit
        (configureStore_capacity (fun hp => recordsEmpty_iff.2 (he hp)) (by rw [hread]; exact hgrant))
    · exact next_scrub_refused (c := cmdConfigureStore) h0 (by decide) rfl hadmit
        (configureStore_notEmpty _ hp (fun h => he (recordsEmpty_iff.1 h)))
  · intro hp hcount
    have hadmit : CommandClass.lock.refusal s.store.part = none := by rw [hp]; rfl
    exact next_done (c := cmdLockVoyage) h0 (by decide) rfl hadmit (lockVoyage_ok _ hcount)
  · intro hp hcount
    have hadmit : CommandClass.lock.refusal s.store.part = none := by rw [hp]; rfl
    exact next_refused (c := cmdLockVoyage) h0 (by decide) rfl hadmit (lockVoyage_notFound _ hcount)
  · have hadmit : CommandClass.finish.refusal s.store.part = none := by rw [hpart]; rfl
    have refused : ∀ r, endVoyage [] s = .error (r, []) →
        exec (.endVoyage (frameOf tag [])) s = .next (s.answered 0x13 (frameOf tag []) r []) := fun r hr =>
      next_scrub_refused (c := cmdEndVoyage) h0 (by decide) rfl hadmit hr
    simp only [← settled_iff, ← gone_iff, ← noHolds_iff]
    refine ⟨fun hs hg hh hm => ?_, fun hs => ?_, fun hs hg => ?_, fun hs hg hh => ?_, fun hs hg hh hm => ?_⟩
    · refine next_scrub_done (c := cmdEndVoyage) h0 (by decide) rfl hadmit ?_
      simp only [endVoyage, check_of hs, check_of hg, check_of hh, check_of hm, ok_bind]
      rfl
    · exact refused _ (by simp only [endVoyage, check_not hs, error_bind])
    · exact refused _ (by simp only [endVoyage, check_of hs, check_not hg, ok_bind, error_bind])
    · exact refused _ (by simp only [endVoyage, check_of hs, check_of hg, check_not hh, ok_bind, error_bind])
    · have hm' : ¬ s.mode.muster = false := by simp [hm]
      exact refused _ (by
        simp only [endVoyage, check_of hs, check_of hg, check_of hh, check_not hm', ok_bind, error_bind])

/-! ### SET_DECK and SET_LANE_DECKS -/

theorem asFin_val {n : Nat} (k : Fin n) : asFin n k.val = some k := by simp [asFin]

theorem asFin_none {n k : Nat} (h : n ≤ k) : asFin n k = none := by simp [asFin, h]

theorem readSetDeck_encoded {slot deck first count : Nat} (hs : slot < 256) (hd : deck < 65536) (hf : first < 65536)
    (hc : count < 65536) :
    readSetDeck (e8 slot ++ e16 deck ++ e16 first ++ e16 count) = ⟨slot, deck, first, count⟩ := by
  simp [readSetDeck, List.append_assoc, Nat.mod_eq_of_lt, *]

theorem readSetLaneDecks_encoded {lane low high : Nat} (hn : lane < 65536) (hl : low < 65536) (hh : high < 65536) :
    readSetLaneDecks (e16 lane ++ e16 low ++ e16 high) = ⟨lane, low, high⟩ := by
  simp [readSetLaneDecks, List.append_assoc, Nat.mod_eq_of_lt, *]

/-- The override slots are all disabled, as SET_DECK tests it (R13). -/
theorem disabled_iff {s : State} :
    (List.finRange 8).all (fun i => !((cell s.cabin.overrides i).any Override.enable)) = true
      ↔ ∀ n : Fin 8, ∀ o ∈ cell s.cabin.overrides n, o.enable = false := by
  simp [List.all_eq_true, Option.any_eq_false]

/-- No other non-empty slot holds the deck, as SET_DECK tests it (R13). -/
theorem unheld_iff {st : Store} {k : Fin 20} {deck : Nat} :
    (List.finRange 20).all (fun i =>
        i == k || (cell st.deckMap i).count == 0 || (cell st.deckMap i).deck != deck) = true
      ↔ ∀ m : Fin 20, m ≠ k → (cell st.deckMap m).count ≠ 0 → (cell st.deckMap m).deck ≠ deck := by
  simp [List.all_eq_true, or_iff_not_imp_left]

/-- SET_DECK's range test on the room count, deck and rooms (R13). -/
abbrev SetDeckFields.inRange (a : SetDeckFields) : Prop :=
  a.count ≤ 999 ∧ (a.count ≠ 0 → 1 ≤ a.deck ∧ a.deck ≤ 20 ∧ a.first + a.count ≤ 1000)

/-- Every override slot is disabled. -/
abbrev State.OverridesOff (s : State) : Prop := ∀ n : Fin 8, ∀ o ∈ cell s.cabin.overrides n, o.enable = false

/-- A deck that another non-empty slot than `k` holds. -/
abbrev Store.HeldElsewhere (st : Store) (k : Fin 20) (deck : Nat) : Prop :=
  ∃ m : Fin 20, m ≠ k ∧ (cell st.deckMap m).count ≠ 0 ∧ (cell st.deckMap m).deck = deck

/-- The store with one deck map slot written. -/
abbrev Store.withDeck (st : Store) (k : Fin 20) (d : DeckSlot) : Store := { st with deckMap := putCell st.deckMap k d }

/-- SET_DECK's test of the deck passes when the count is 0 or no other slot holds the deck. -/
theorem duplicateTest_of {st : Store} {k : Fin 20} {deck count : Nat} (h : ¬ (count ≠ 0 ∧ st.HeldElsewhere k deck)) :
    count ≠ 0 → (List.finRange 20).all (fun i =>
      i == k || (cell st.deckMap i).count == 0 || (cell st.deckMap i).deck != deck) = true :=
  fun hn => unheld_iff.2 fun m hm hc hdeck => h ⟨hn, m, hm, hc, hdeck⟩

section SetDeck

variable {s : State} {p : List Byte} {k : Fin 20}

theorem setDeck_badSlot (hk : 20 ≤ (readSetDeck p).slot) : setDeck p s = .error (.range, []) := by
  simp only [setDeck, asFin_none hk, need_none, error_bind]

variable (hk : (readSetDeck p).slot = k.val)

include hk

theorem setDeck_range (hr : ¬ (readSetDeck p).inRange) : setDeck p s = .error (.range, []) := by
  simp only [setDeck, hk, asFin_val, need_some, ok_bind, check_not hr, error_bind]

variable (hr : (readSetDeck p).inRange)

include hr

theorem setDeck_notEmpty (hg : s.roster.guests ≠ []) : setDeck p s = .error (.notEmpty, []) := by
  have hg' : ¬ s.roster.guests.isEmpty = true := by simpa using hg
  simp only [setDeck, hk, asFin_val, need_some, ok_bind, check_of hr, check_not hg', error_bind]

variable (hg : s.roster.guests = [])

include hg

theorem setDeck_locked (ho : ¬ s.OverridesOff) : setDeck p s = .error (.locked, []) := by
  rw [State.OverridesOff, ← disabled_iff] at ho
  simp only [setDeck, hk, asFin_val, need_some, ok_bind, check_of hr, check_of (List.isEmpty_iff.2 hg), check_not ho,
    error_bind]

variable (ho : s.OverridesOff)

include ho

theorem setDeck_duplicate (hn : (readSetDeck p).count ≠ 0) (hd : s.store.HeldElsewhere k (readSetDeck p).deck) :
    setDeck p s = .error (.duplicate, []) := by
  have hd' : ¬ ((readSetDeck p).count ≠ 0 → (List.finRange 20).all (fun i =>
      i == k || (cell s.store.deckMap i).count == 0
        || (cell s.store.deckMap i).deck != (readSetDeck p).deck) = true) := by
    rw [unheld_iff]
    obtain ⟨m, hm, hc, hdeck⟩ := hd
    exact fun h => h hn m hm hc hdeck
  simp only [setDeck, hk, asFin_val, need_some, ok_bind, check_of hr, check_of (List.isEmpty_iff.2 hg),
    check_of (disabled_iff.2 ho), check_not hd', error_bind]

variable (hd : ¬ ((readSetDeck p).count ≠ 0 ∧ s.store.HeldElsewhere k (readSetDeck p).deck))

include hd

theorem setDeck_ok (hc : (s.store.withDeck k (readSetDeck p).value).cabinCount ≤ s.store.caps.cabins) :
    setDeck p s = .ok ({ s with
      store := s.store.withDeck k (readSetDeck p).value, cabin := { s.cabin with cabins := [] } }, []) := by
  simp only [setDeck, hk, asFin_val, need_some, ok_bind, check_of hr, check_of (List.isEmpty_iff.2 hg),
    check_of (disabled_iff.2 ho), check_of (duplicateTest_of hd), check_of hc]
  rfl

theorem setDeck_capacity (hc : s.store.caps.cabins < (s.store.withDeck k (readSetDeck p).value).cabinCount) :
    setDeck p s = .error (.capacity, []) := by
  simp only [setDeck, hk, asFin_val, need_some, ok_bind, check_of hr, check_of (List.isEmpty_iff.2 hg),
    check_of (disabled_iff.2 ho), check_of (duplicateTest_of hd), check_not (Nat.not_le.2 hc), error_bind]

end SetDeck

/-- SET_LANE_DECKS takes a range in 1 to 20, or 0 and 0 for an empty one (R15). -/
abbrev laneRangeValid (low high : Nat) : Prop := (low = 0 ∧ high = 0) ∨ (1 ≤ low ∧ low ≤ high ∧ high ≤ 20)

theorem laneRangeValid_iff {low high : Nat} :
    laneRangeValid low high ↔ low ≤ 20 ∧ high ≤ 20 ∧ (low = 0 ↔ high = 0) ∧ low ≤ high := by
  unfold laneRangeValid
  omega

theorem setLaneDecks_ok {s : State} {p : List Byte} {n : Fin 4} (hn : (readSetLaneDecks p).lane = n.val)
    (hr : laneRangeValid (readSetLaneDecks p).low (readSetLaneDecks p).high) :
    setLaneDecks p s = .ok ({ s with store := { s.store with
      laneDecks := putCell s.store.laneDecks n (if (readSetLaneDecks p).low = 0 then none
        else some ⟨(readSetLaneDecks p).low, (readSetLaneDecks p).high⟩) } }, []) := by
  simp only [setLaneDecks, hn, asFin_val, need_some, ok_bind, check_of (laneRangeValid_iff.1 hr)]
  rfl

theorem setLaneDecks_range {s : State} {p : List Byte} (h : 3 < (readSetLaneDecks p).lane
    ∨ ¬ laneRangeValid (readSetLaneDecks p).low (readSetLaneDecks p).high) :
    setLaneDecks p s = .error (.range, []) := by
  by_cases hn : (readSetLaneDecks p).lane < 4
  · have hr := mt laneRangeValid_iff.2 (h.resolve_left (by omega))
    have hlane := asFin_val ⟨_, hn⟩
    simp only at hlane
    simp only [setLaneDecks, hlane, need_some, ok_bind, check_not hr, error_bind]
  · simp only [setLaneDecks, asFin_none (Nat.not_lt.1 hn), need_none, error_bind]

/-- Settles O17: the tests of R13 and R15 in their order, each on the fields that the frame carries. -/
theorem deckMapAndLaneRanges : Obligations.DeckMapAndLaneRanges := by
  intro s tag h0 hpart
  have hadmit : CommandClass.structural.refusal s.store.part = none := by rw [hpart]; rfl
  refine ⟨?_, ?_, ?_, ?_⟩
  · intro k deck first count hd hf hc hr hg ho hu f st hcap
    have hread := readSetDeck_encoded (slot := k.val) (by omega) hd hf (show count < 65536 by omega)
    refine next_done (c := cmdSetDeck) h0 (by decide) rfl hadmit ?_
    have hok := setDeck_ok (s := s) (k := k) (p := e8 k.val ++ e16 deck ++ e16 first ++ e16 count)
    rw [hread] at hok
    exact hok rfl ⟨hc, hr⟩ hg ho (fun ⟨hn, m, hm, hcm, hdm⟩ => hu hn m hm hcm hdm) hcap
  · intro slot deck first count hs hd hf hc f refused valid disabled
    have hread := readSetDeck_encoded hs hd hf hc
    have hrefused : ∀ r, setDeck (e8 slot ++ e16 deck ++ e16 first ++ e16 count) s = .error (r, []) → refused r :=
      fun r hr => next_refused (c := cmdSetDeck) h0 (by decide) rfl hadmit hr
    generalize e8 slot ++ e16 deck ++ e16 first ++ e16 count = p at hread hrefused
    obtain ⟨rfl, rfl, rfl, rfl⟩ : slot = (readSetDeck p).slot ∧ deck = (readSetDeck p).deck
      ∧ first = (readSetDeck p).first ∧ count = (readSetDeck p).count := by simp [hread]
    refine ⟨fun h => hrefused _ ?_, fun k hk hr => ?_⟩
    · by_cases hk : 20 ≤ (readSetDeck p).slot
      · exact setDeck_badSlot hk
      · exact setDeck_range (k := ⟨_, Nat.not_le.1 hk⟩) rfl (h.resolve_left (by omega))
    · exact ⟨fun hg => hrefused _ (setDeck_notEmpty hk.symm hr hg),
        fun hg ho => hrefused _ (setDeck_locked hk.symm hr hg ho),
        fun hg ho hd => hrefused _ (setDeck_duplicate hk.symm hr hg ho hd.1 hd.2),
        fun hg ho hd hcap => hrefused _ (setDeck_capacity hk.symm hr hg ho hd hcap)⟩
  · intro lane low high hn hl hh h f
    have hread := readSetLaneDecks_encoded hn hl hh
    exact next_refused (c := cmdSetLaneDecks) h0 (by decide) rfl hadmit (setLaneDecks_range (by rw [hread]; exact h))
  · intro n low high h f
    have hread := readSetLaneDecks_encoded (lane := n.val) (low := low) (high := high) (by omega) (by omega) (by omega)
    refine next_done (c := cmdSetLaneDecks) h0 (by decide) rfl hadmit ?_
    rw [setLaneDecks_ok (by rw [hread]) (by rw [hread]; exact h), hread]

end Sys2Proof.Machine
end

section
/-! The eight reads without an operand (R3, R64, R83, R129, R145, R154, R164, R172): their items as positions, markers
and numbers. -/

namespace Sys2Proof.Machine

/-! ### Enumerations by their positions -/

theorem eEnum_partStates (x : PartState) :
    eEnum partStates x = e8 (match x with | .blank => 0 | .setup => 1 | .inVoyage => 2) := by
  cases x <;> rfl

theorem eEnum_gangwayStates (x : GangwayState) :
    eEnum gangwayStates x = e8 (match x with | .opened => 0 | .inboundOnly => 1 | .closed => 2) := by
  cases x <;> rfl

theorem eEnum_watchSources (x : WatchSource) :
    eEnum watchSources x = e8 (match x with
      | .aboardTotal => 0 | .ashoreTotal => 1 | .expectedTotal => 2 | .stationAboard => 3 | .unmusteredTotal => 4) := by
  cases x <;> rfl

theorem eEnum_levels (x : Level) : eEnum levels x = e8 (match x with | .high => 0 | .low => 1) := by
  cases x <;> rfl

theorem eEnum_roles (x : Role) :
    eEnum roles x = e8 (match x with | .none => 0 | .muster => 1 | .lockdown => 2 | .chargeStop => 3) := by
  cases x <;> rfl

theorem eEnum_routings (x : Routing) : eEnum routings x = e8 (match x with | .single => 0 | .split => 1) := by
  cases x <;> rfl

theorem eEnum_polarities (x : Polarity) :
    eEnum polarities x = e8 (match x with | .activeHigh => 0 | .activeLow => 1) := by
  cases x <;> rfl

theorem eOverrideAction_eq (x : OverrideAction) :
    eOverrideAction x
      = (match x with | .denyAll => e8 0 | .serviceOnly => e8 1 | .admitOne serial => e8 2 ++ e32 serial) := by
  cases x <;> rfl

/-- The detail byte holds the lane bits below the input bits. -/
theorem detail_eq (u : NoticeUnit) : [u.detail] = e8 (u.laneBits.toNat + 16 * u.inputBits.toNat) := by
  have h1 := u.laneBits.isLt
  have h2 := u.inputBits.isLt
  refine congrArg (fun b => [b]) (BitVec.eq_of_toNat_eq ?_)
  rw [NoticeUnit.detail, BitVec.toNat_append, ← Nat.shiftLeft_add_eq_or_of_lt h1, Nat.shiftLeft_eq, BitVec.toNat_ofNat]
  omega

/-- The staged rates, counted entry by entry. -/
theorem stagedCurrencies_eq (u : FolioUnit) :
    u.stagedCurrencies = (List.finRange 8).countP (fun k => (cell u.currencies k).staged.isSome) := by
  rw [FolioUnit.stagedCurrencies, ← List.countP_eq_length_filter, toList_eq_map_cell, List.countP_map]
  rfl

theorem stagedOutlets_eq (u : FolioUnit) : u.stagedOutlets = u.outlets.countP (fun e => e.2.staged.isSome) := by
  rw [FolioUnit.stagedOutlets, ← List.countP_eq_length_filter]

/-! ### The reads -/

/-- A read without an operand answers its data and changes nothing. -/
theorem next_read {c : Command} {tag : Byte} {body : List Byte → State → Verdict (State × List Byte)} {s : State}
    {data : List Byte} (h0 : s.link.slot = .empty) (hc : c.length = 0) (h4 : c.cls.refusal s.store.part = none)
    (hb : body [] s = .ok (s, data)) :
    (.next (hostCommand c (frameOf tag []) body s) : Host.Outcome State Fault Refusal)
      = .next (s.answered c.code (frameOf tag []) .done data) :=
  next_done h0 (by omega) hc.symm h4 hb

/-- Settles O13, read by read. -/
theorem readsOfWholeBlocks : Obligations.ReadsOfWholeBlocks := by
  intro s tag h0 f flag mark st t c u
  have hop := operation_admitted s.store.part
  refine ⟨next_read (c := cmdReadStore) h0 rfl hop ?_,
    fun hr => next_read (c := cmdReadOverrides) h0 rfl (record_admitted hr) ?_,
    next_read (c := cmdReadCurrencies) h0 rfl hop ?_, next_read (c := cmdReadTallies) h0 rfl hop ?_,
    next_read (c := cmdReadModes) h0 rfl hop ?_, next_read (c := cmdReadClock) h0 rfl hop ?_,
    next_read (c := cmdReadLanes) h0 rfl hop ?_, next_read (c := cmdReadNotices) h0 rfl hop ?_⟩
  · simp only [readStore, eEnum_partStates]
    rfl
  · simp only [readOverrides, eOverride, eOverrideAction_eq]
    rfl
  · simp only [readCurrencies, flatMap_toList]
    rfl
  · simp only [readTallies, flatMap_toList, eGangway, eEnum_gangwayStates, Tally.eWatch, eEnum_watchSources]
    rfl
  · simp only [readModes, flatMap_toList, eInputRead, eInput, eEnum_levels, eEnum_roles]
    rfl
  · simp only [readClock, stagedCurrencies_eq, stagedOutlets_eq]
    rfl
  · simp only [readLanes]
    rfl
  · simp only [readNotices, detail_eq, eEnum_routings, eEnum_polarities]
    rfl

end Sys2Proof.Machine
end

section
/-! With no command waiting, a stopped clock and no qualification in progress, a period of the time base moves a scrub
alone (R9, R168). -/

namespace Sys2Proof.Machine

/-- A run's first step. -/
theorem run_succ {M : Host.Core} {s t : M.State} {k : Nat} (h : M.step s = .next t) : M.run (k + 1) s = M.run k t := by
  simp only [Host.Core.run, h]

/-- The state with the scrub in flight after `k` periods. -/
def State.scrubAt (s : State) (k : Nat) : State := { s with store := { s.store with scrub := some k } }

/-- With the clock stopped and no interval in progress a period reaches the scrub alone. -/
theorem tick_quiet {s : State} (hc : s.clock.running = false) (hi : ∀ n : Fin 4, (s.inputAt n).interval = none) :
    s.tick = s.tickScrub := by
  have hclock : s.tickClock = s := by simp [State.tickClock, hc]
  have hinputs : (List.finRange 4).foldl State.tickInput s = s :=
    List.foldlRecOn (motive := fun t => t = s) _ _ rfl fun t ht n _ => by
      subst ht
      simp [State.tickInput, hi n]
  rw [State.tick, hclock, hinputs]

section Quiet

variable {s : State} (hp : s.pending = []) (hc : s.clock.running = false)
  (hi : ∀ n : Fin 4, (s.inputAt n).interval = none)

include hp hc hi

theorem step_scrubAt (k : Nat) : step (s.scrubAt k) = .next (s.scrubAt k).tickScrub := by
  have hpending : (s.scrubAt k).pending = [] := hp
  rw [step, hpending, ← tick_quiet (s := s.scrubAt k) hc hi]

theorem step_scrubAt_next {k : Nat} (hk : k + 1 < 1311) :
    Sys2Proof.core.step (s.scrubAt k) = .next (s.scrubAt (k + 1)) :=
  (step_scrubAt hp hc hi k).trans (congrArg Host.Outcome.next (if_pos hk))

/-- Fewer periods than a scrub takes leave it in flight. -/
theorem run_scrubAt (k : Nat) :
    ∀ j, j + k < 1311 → Host.Core.run Sys2Proof.core k (s.scrubAt j) = .next (s.scrubAt (j + k)) := by
  induction k with
  | zero => exact fun _ _ => rfl
  | succ k ih =>
    intro j hj
    rw [run_succ (step_scrubAt_next hp hc hi (by omega)), ih (j + 1) (by omega), Nat.add_right_comm]
    rfl

/-- The periods that are left end the scrub. -/
theorem run_scrubAt_end (k : Nat) : ∀ j, j + k = 1310 →
    Host.Core.run Sys2Proof.core (k + 1) (s.scrubAt j) = .next (s.scrubAt 1310).completeScrub := by
  induction k with
  | zero =>
    intro j hj
    obtain rfl : j = 1310 := hj
    exact run_succ (M := Sys2Proof.core) (step_scrubAt hp hc hi 1310)
  | succ k ih =>
    intro j hj
    rw [run_succ (step_scrubAt_next hp hc hi (by omega)), ih (j + 1) (by omega)]

end Quiet

/-- Settles O2, by induction on the periods that are left. -/
theorem scrubRunsItsPeriods : Obligations.ScrubRunsItsPeriods := by
  intro s r hp hc hi hs hslot
  have hstart : s.scrubAt 0 = s := by
    rw [State.scrubAt, ← hs]
  refine ⟨fun k hk => ?_, ?_⟩
  · have := run_scrubAt hp hc hi k 0 (by omega)
    rwa [hstart, Nat.zero_add] at this
  · have := run_scrubAt_end hp hc hi 1310 0 rfl
    rw [hstart] at this
    rw [this, completeScrub_withheld (s := s.scrubAt 1310) hslot]
    rfl

end Sys2Proof.Machine
end

section
/-! The first test of every field decision: a request that is taken while the part does not serve is answered
UNAVAILABLE and changes nothing (R8, R66, R67, R160). -/

namespace Sys2Proof.Machine

/-- A decision whose tests begin with the test of service. -/
theorem decided_unserved {s : State} (hs : ¬ s.serving) (d : Unit → Decision Decided) :
    decided s (test s.serving .unavailable >>= d) = ⟨s, .unavailable, []⟩ := by
  rw [test_not hs]
  rfl

section

variable {s : State} (hs : ¬ s.serving) (n : Fin 4) (r : Request)

include hs

theorem tillTests_unserved : tillTests n r s = .error (.unavailable, []) := by
  rw [tillTests, test_not hs]
  rfl

theorem saleTests_unserved (a : ChargeFields) : saleTests n r a s = .error (.unavailable, []) := by
  rw [saleTests, tillTests_unserved hs]
  rfl

theorem tagTests_unserved (tag : Tag) : tagTests n r tag s = .error (.unavailable, []) := by
  rw [tagTests, test_not hs]
  rfl

theorem decideEntry_unserved : decideEntry n r s = ⟨s, .unavailable, []⟩ := decided_unserved hs _

theorem decidePrivacy_unserved : decidePrivacy n r s = ⟨s, .unavailable, []⟩ := by
  simp only [decidePrivacy, privacyTests, test_not hs, error_bind, decided]

theorem decideCharge_unserved : decideCharge n r s = ⟨s, .unavailable, []⟩ := by
  simp only [decideCharge, chargeTests, saleTests_unserved hs, error_bind, decided]

theorem decideBalance_unserved : decideBalance n r s = ⟨s, .unavailable, []⟩ := by
  simp only [decideBalance, balanceTests, tillTests_unserved hs, error_bind, decided]

theorem decideAuthorise_unserved : decideAuthorise n r s = ⟨s, .unavailable, []⟩ := by
  simp only [decideAuthorise, authoriseTests, saleTests_unserved hs, error_bind, decided]

theorem decideComplete_unserved : decideComplete n r s = ⟨s, .unavailable, []⟩ := by
  simp only [decideComplete, completeTests, tagTests_unserved hs, error_bind, decided]

theorem decideVoid_unserved : decideVoid n r s = ⟨s, .unavailable, []⟩ := by
  simp only [decideVoid, tagTests_unserved hs, error_bind, decided]

theorem decideGate_unserved : decideGate n r s = ⟨s, .unavailable, []⟩ := by
  simp only [decideGate, gateTests, test_not hs, error_bind, decided]

theorem decideMuster_unserved : decideMuster n r s = ⟨s, .unavailable, []⟩ := by
  simp only [decideMuster, musterTests, test_not hs, error_bind, decided]

end

/-- A take of the head's kind, whose decision answers UNAVAILABLE. -/
theorem next_take_unavailable {s : State} {n : Fin 4} {r : Request} {rest : List Request}
    {decide : Request → State → Decided} (h : s.Heads n r rest) (hd : decide r s = ⟨s, .unavailable, []⟩) :
    (.next (takeRequest r.kind n decide s) : Host.Outcome State Fault Refusal)
      = .next (s.replying n r rest .unavailable []) := by
  rw [takeRequest_heads h rfl, hd]

/-- Settles O28, kind by kind. -/
theorem unservedRequestsUnavailable : Obligations.UnservedRequestsUnavailable := by
  intro s n r rest h hnot take
  have hs : ¬ s.serving := by
    rintro ⟨hrun, hpart, hscrub⟩
    rcases hnot with hn | hn | hn
    · simp [hn] at hrun
    · exact hpart hn
    · rw [State.scrubbing, hn] at hscrub
      cases hscrub
  obtain ⟨terminal, sequence, kind, payload⟩ := r
  cases kind with
  | entry => exact next_take_unavailable h (decideEntry_unserved hs n _)
  | privacy => exact next_take_unavailable h (decidePrivacy_unserved hs n _)
  | charge => exact next_take_unavailable h (decideCharge_unserved hs n _)
  | balance => exact next_take_unavailable h (decideBalance_unserved hs n _)
  | authorise => exact next_take_unavailable h (decideAuthorise_unserved hs n _)
  | complete => exact next_take_unavailable h (decideComplete_unserved hs n _)
  | void => exact next_take_unavailable h (decideVoid_unserved hs n _)
  | gate => exact next_take_unavailable h (decideGate_unserved hs n _)
  | muster => exact next_take_unavailable h (decideMuster_unserved hs n _)

end Sys2Proof.Machine
end

section
/-! The card table as a lookup walks it (R21 to R24, R33), and the commands that name one card (R25 to R30). -/

namespace Sys2Proof.Machine

/-! ### The walk of a window -/

/-- A walk for a serial passes over a slot: it is not FREE and holds no card of that serial (R23). -/
abbrev PassedOver (slots : Table CardSlot) (serial i : Nat) : Prop :=
  Table.find slots i ≠ none ∧ ∀ d, Table.find slots i = some (.inUse d) → d.serial ≠ serial

theorem walkWindow_cons_hit {slots : Table CardSlot} {serial k : Nat} {c : Card} (rest : List Nat)
    (hk : Table.find slots k = some (.inUse c)) (hc : c.serial = serial) :
    walkWindow slots serial (k :: rest) = some (k, c) := by
  simp [walkWindow, hk, hc]

theorem walkWindow_cons_passed {slots : Table CardSlot} {serial k : Nat} (rest : List Nat)
    (h : PassedOver slots serial k) : walkWindow slots serial (k :: rest) = walkWindow slots serial rest := by
  obtain ⟨hne, hd⟩ := h
  cases hf : Table.find slots k with
  | none => exact absurd hf hne
  | some x =>
    cases x with
    | retired => simp [walkWindow, hf]
    | inUse d => simp [walkWindow, hf, hd d hf]

/-- A walk finds the first slot of its window that holds the serial, when no FREE slot stands before it (R23). -/
theorem walkWindow_eq_some {slots : Table CardSlot} {serial k : Nat} {c : Card} {window : List Nat} :
    walkWindow slots serial window = some (k, c) ↔
      ∃ before after, window = before ++ k :: after ∧ Table.find slots k = some (.inUse c) ∧ c.serial = serial
        ∧ ∀ i ∈ before, PassedOver slots serial i := by
  induction window with
  | nil => simp [walkWindow]
  | cons j rest ih =>
    constructor
    · intro h
      by_cases hpass : PassedOver slots serial j
      · rw [walkWindow_cons_passed rest hpass] at h
        obtain ⟨before, after, rfl, hk, hc, hb⟩ := ih.1 h
        exact ⟨j :: before, after, rfl, hk, hc, List.forall_mem_cons.2 ⟨hpass, hb⟩⟩
      · cases hf : Table.find slots j with
        | none => simp [walkWindow, hf] at h
        | some x =>
          cases x with
          | retired => exact absurd ⟨by simp [hf], by simp [hf]⟩ hpass
          | inUse d =>
            have hd : d.serial = serial := by
              by_contra hne
              exact hpass ⟨by simp [hf], by simpa [hf] using hne⟩
            rw [walkWindow_cons_hit rest hf hd] at h
            obtain ⟨rfl, rfl⟩ := Prod.mk.inj (Option.some.inj h)
            exact ⟨[], rest, rfl, hf, hd, List.forall_mem_nil _⟩
    · rintro ⟨before, after, hw, hk, hc, hb⟩
      cases before with
      | nil =>
        obtain ⟨rfl, rfl⟩ := List.cons.inj hw
        exact walkWindow_cons_hit _ hk hc
      | cons i before =>
        obtain ⟨rfl, rfl⟩ := List.cons.inj hw
        obtain ⟨hi, hb⟩ := List.forall_mem_cons.1 hb
        rw [walkWindow_cons_passed _ hi]
        exact ih.2 ⟨before, after, rfl, hk, hc, hb⟩

theorem State.cardSlotAt_of_lookupCard {s : State} {serial k : Nat} {c : Card} (h : s.lookupCard serial = some (k, c)) :
    s.cardSlotAt k = some (.inUse c) := find_of_walkWindow h

theorem State.serial_of_lookupCard {s : State} {serial k : Nat} {c : Card} (h : s.lookupCard serial = some (k, c)) :
    c.serial = serial := by
  obtain ⟨-, -, -, -, hc, -⟩ := walkWindow_eq_some.1 h
  exact hc

/-! ### Resolution -/

/-- Settles O21, test by test. -/
theorem resolutionTestsInOrder : Obligations.ResolutionTestsInOrder := by
  intro s p
  refine ⟨fun h => by simp only [State.resolve, h, demand_none, error_bind], fun k c h => ?_⟩
  have found : s.resolve p = (do
      test (¬ p.issue < c.issue) .staleIssue
      test (¬ c.issue < p.issue) .unknownCard
      test (c.state = .active) .cardSuspended
      test (c.validOn s.clock.day) .cardNotValid
      return c.resolution k) := by
    simp only [State.resolve, h, demand_some, ok_bind]
  rw [found]
  refine ⟨fun hi => by simp only [test_not (not_not_intro hi), error_bind], fun hi => ?_, fun hi => ?_⟩
  · simp only [test_of (Nat.lt_asymm hi), test_not (not_not_intro hi), ok_bind, error_bind]
  · have h1 : ¬ p.issue < c.issue := by omega
    have h2 : ¬ c.issue < p.issue := by omega
    simp only [test_of h1, test_of h2, ok_bind]
    refine ⟨fun hs => ?_, fun hs => ⟨fun hv => ?_, fun hv hl => ?_⟩⟩
    · have h3 : ¬ c.state = .active := by simp [hs]
      simp only [test_not h3, error_bind]
    · simp only [test_of hs, test_not hv, ok_bind, error_bind]
    · have h4 : c.validOn s.clock.day := ⟨hv, hl⟩
      simp only [test_of hs, test_of h4, ok_bind]
      rfl

/-! ### The commands on one card -/

theorem State.retireCard_guest {s : State} {c : Card} {i : Nat} {g : Guest} (k : Nat) (hi : c.holder = .guest i)
    (hg : s.guestAt i = some g) :
    s.retireCard k c = { s with
      cards := ⟨Table.put s.cards.slots k .retired, s.cards.inUseCount - 1, s.cards.retiredCount + 1⟩
      roster := { s.roster with guests := Table.put s.roster.guests i { g with cards := g.cards.erase c.serial } } } := by
  have hg' : ∀ x, (s.withCards x).guestAt i = some g := fun _ => hg
  simp only [State.retireCard, hi, hg']
  rfl

theorem State.retireCard_other {s : State} {c : Card} (k : Nat) (hi : ∀ i, c.holder ≠ .guest i) :
    s.retireCard k c = { s with
      cards := ⟨Table.put s.cards.slots k .retired, s.cards.inUseCount - 1, s.cards.retiredCount + 1⟩ } := by
  unfold State.retireCard
  cases h : c.holder with
  | guest i => exact absurd h (hi i)
  | service r => rfl
  | officer => rfl

theorem State.ownerDeparted_eq_true {s : State} {c : Card} :
    s.ownerDeparted c = true ↔ ∃ i g, c.holder = .guest i ∧ s.guestAt i = some g ∧ g.presence = .departed := by
  unfold State.ownerDeparted
  cases h : c.holder with
  | guest i => simp [Option.any_eq_true]
  | service r => simp
  | officer => simp

theorem State.ownerDeparted_eq_false {s : State} {c : Card} : s.ownerDeparted c = false ↔
    ∀ i g, c.holder = .guest i → s.guestAt i = some g → g.presence ≠ .departed := by
  rw [← Bool.not_eq_true, State.ownerDeparted_eq_true]
  simp only [not_exists, not_and, ne_eq]

/-- Settles O20: the lookup, then each command on the card that it finds. -/
theorem cardCommandsOnOneCard : Obligations.CardCommandsOnOneCard := by
  intro s tag serial k c h0 hr hs f
  have hread : u32 (e32 serial) 0 = serial := by rw [u32_e32_nil, Nat.mod_eq_of_lt hs]
  have hrec := record_admitted hr
  refine ⟨fun hl => ⟨?_, ?_, ?_, ?_⟩, fun hl => ?_⟩
  · exact next_refused (c := cmdReissueCard) h0 (by decide) rfl hrec
      (by simp only [reissueCard, hread, hl, need_none, error_bind])
  · exact next_refused (c := cmdSuspendCard) h0 (by decide) rfl hrec
      (by simp only [suspendCard, hread, hl, need_none, error_bind])
  · exact next_refused (c := cmdRestoreCard) h0 (by decide) rfl hrec
      (by simp only [restoreCard, hread, hl, need_none, error_bind])
  · exact next_refused (c := cmdRetireCard) h0 (by decide) rfl hrec
      (by simp only [retireCard, hread, hl, need_none, error_bind])
  intro kept
  have retired : exec (.retireCard f) s = .next ((s.retireCard k c).answered 0x24 f .done (e16 k)) :=
    next_done (c := cmdRetireCard) h0 (by decide) rfl hrec
      (by simp only [retireCard, hread, hl, need_some, ok_bind]; rfl)
  refine ⟨fun hi => ?_, fun hi => ?_, ?_, fun hp => ?_, fun i g hc hg hp => ?_, fun i g hc hg => ?_, fun hc => ?_⟩
  · have hne : c.issue ≠ 255 := by omega
    exact next_done (c := cmdReissueCard) h0 (by decide) rfl hrec
      (by simp only [reissueCard, hread, hl, need_some, ok_bind, check_of hne]; rfl)
  · exact next_refused (c := cmdReissueCard) h0 (by decide) rfl hrec
      (by simp only [reissueCard, hread, hl, need_some, ok_bind, check_not (not_not_intro hi), error_bind])
  · exact next_done (c := cmdSuspendCard) h0 (by decide) rfl hrec
      (by simp only [suspendCard, hread, hl, need_some, ok_bind]; rfl)
  · exact next_done (c := cmdRestoreCard) h0 (by decide) rfl hrec
      (by simp only [restoreCard, hread, hl, need_some, ok_bind, check_of (State.ownerDeparted_eq_false.2 hp)]; rfl)
  · have hd : ¬ s.ownerDeparted c = false := by simp [State.ownerDeparted_eq_true.2 ⟨i, g, hc, hg, hp⟩]
    exact next_refused (c := cmdRestoreCard) h0 (by decide) rfl hrec
      (by simp only [restoreCard, hread, hl, need_some, ok_bind, check_not hd, error_bind])
  · rw [retired, State.retireCard_guest k hc hg]
  · rw [retired, State.retireCard_other k hc]

/-! ### ISSUE_CARD -/

/-- The home slot among a granted number of card slots, and the window that runs on from it (R21, R22). -/
theorem homeSlot_eq {c : Nat} (hc : c ∈ [1024, 2048, 4096, 8192, 16384]) (serial : Nat) :
    homeSlot c serial = serial * 2654435769 % 4294967296 / (4294967296 / c) := by
  have hpow : 2 ^ (32 - Nat.log2 c) = 4294967296 / c := by
    simp only [List.mem_cons, List.not_mem_nil, or_false] at hc
    rcases hc with rfl | rfl | rfl | rfl | rfl <;> decide
  rw [homeSlot, hpow]

theorem homeSlot_lt {c : Nat} (hc : c ∈ [1024, 2048, 4096, 8192, 16384]) (serial : Nat) : homeSlot c serial < c := by
  rw [homeSlot_eq hc]
  have hlt : serial * 2654435769 % 4294967296 < 4294967296 := Nat.mod_lt _ (by decide)
  generalize serial * 2654435769 % 4294967296 = x at hlt
  simp only [List.mem_cons, List.not_mem_nil, or_false] at hc
  rcases hc with rfl | rfl | rfl | rfl | rfl <;> omega

/-- Placement takes the first slot of the window that is FREE or RETIRED (R24). -/
theorem placeSlot_eq (s : State) (window : List Nat) :
    placeSlot s.cards.slots window
      = window.find? (fun j => decide (s.cardSlotAt j = none ∨ s.cardSlotAt j = some .retired)) := by
  unfold placeSlot State.cardSlotAt
  congr 1
  funext j
  cases Table.find s.cards.slots j with
  | none => simp
  | some x => cases x <;> simp

theorem placeSlot_eq_none {s : State} {window : List Nat} :
    placeSlot s.cards.slots window = none ↔ ∀ j ∈ window, ∃ c, s.cardSlotAt j = some (.inUse c) := by
  rw [placeSlot_eq, List.find?_eq_none]
  refine forall₂_congr fun j _ => ?_
  cases s.cardSlotAt j with
  | none => simp
  | some x => cases x <;> simp

/-- The optional reading of a field by its marker (R175). -/
theorem settingAt_optional {α : Type} (p : List Byte) (k : Nat) (v : α) :
    (settingAt p k v).optional
      = if u8 p k = 0 then some none else if u8 p k = 1 then some (some v) else none := by
  unfold settingAt
  split <;> simp_all [Setting.optional]

/-- The range test of ISSUE_CARD on fields of known values (test 1 of R25). -/
abbrev IssueCardFields.InRange (a : IssueCardFields) (cls : CardClass) (last : Option Nat) : Prop :=
  a.serial ≠ 0 ∧ a.validFrom ≤ 999 ∧ (∀ d ∈ last, d ≤ 999 ∧ a.validFrom ≤ d)
    ∧ (cls = .service → 1 ≤ a.low ∧ a.low ≤ a.high ∧ a.high ≤ 20)

section GuestTests

variable {a : IssueCardFields} {s : State} {g : Guest}

theorem issueGuestTests_notFound (h : s.namedGuest a.guest = none) :
    issueGuestTests a .guest s = .error (.notFound, []) := by
  simp only [issueGuestTests, h, need_none, error_bind]

variable (h : s.namedGuest a.guest = some g)

include h

theorem issueGuestTests_wrongState (hp : g.presence = .departed) :
    issueGuestTests a .guest s = .error (.wrongState, []) := by
  simp only [issueGuestTests, h, need_some, ok_bind, check_not (not_not_intro hp), error_bind]

theorem issueGuestTests_limit (hp : g.presence ≠ .departed) (hl : 4 ≤ g.cards.length) :
    issueGuestTests a .guest s = .error (.limit, []) := by
  simp only [issueGuestTests, h, need_some, ok_bind, check_of hp, check_not (Nat.not_lt.2 hl)]

theorem issueGuestTests_ok (hp : g.presence ≠ .departed) (hl : g.cards.length < 4) :
    issueGuestTests a .guest s = .ok () := by
  simp only [issueGuestTests, h, need_some, ok_bind, check_of hp, check_of hl]

end GuestTests

section IssueCard

variable {s : State} {p : List Byte} {cls : CardClass} {last : Option Nat}

theorem issueCard_unknownField (h : (readIssueCard p).cls = none ∨ (readIssueCard p).validTo.optional = none) :
    issueCard p s = .error (.range, []) := by
  cases hc : (readIssueCard p).cls with
  | none => simp only [issueCard, hc, need_none, error_bind]
  | some cls =>
    have hl := h.resolve_left (by simp [hc])
    simp only [issueCard, hc, hl, need_some, need_none, ok_bind, error_bind]

variable (hc : (readIssueCard p).cls = some cls) (hl : (readIssueCard p).validTo.optional = some last)

include hc hl

theorem issueCard_range (hr : ¬ (readIssueCard p).InRange cls last) : issueCard p s = .error (.range, []) := by
  simp only [issueCard, hc, hl, need_some, ok_bind, check_not hr, error_bind]

variable (hr : (readIssueCard p).InRange cls last)

include hr

theorem issueCard_guestTests {e : Result × List Byte} (hg : issueGuestTests (readIssueCard p) cls s = .error e) :
    issueCard p s = .error e := by
  simp only [issueCard, hc, hl, need_some, ok_bind, check_of hr, hg, error_bind]

variable (hg : issueGuestTests (readIssueCard p) cls s = .ok ())

include hg

theorem issueCard_duplicate (hd : s.lookupCard (readIssueCard p).serial ≠ none) :
    issueCard p s = .error (.duplicate, []) := by
  simp only [issueCard, hc, hl, need_some, ok_bind, check_of hr, hg, check_not hd, error_bind]

variable (hd : s.lookupCard (readIssueCard p).serial = none)

include hd

theorem issueCard_crowded
    (hk : placeSlot s.cards.slots (probeWindow s.store.caps.cards (readIssueCard p).serial) = none) :
    issueCard p s = .error (.crowded, []) := by
  simp only [issueCard, hc, hl, need_some, ok_bind, check_of hr, hg, check_of hd, hk, need_none, error_bind]

theorem issueCard_ok {k : Nat}
    (hk : placeSlot s.cards.slots (probeWindow s.store.caps.cards (readIssueCard p).serial) = some k) :
    issueCard p s = .ok (s.placeCard k ⟨(readIssueCard p).serial, (readIssueCard p).issue,
        (readIssueCard p).holder cls, .active, (readIssueCard p).validFrom, last⟩,
      e16 k ++ e16 (homeSlot s.store.caps.cards (readIssueCard p).serial)) := by
  simp only [issueCard, hc, hl, need_some, ok_bind, check_of hr, hg, check_of hd, hk]
  rfl

end IssueCard

/-- The card table with a card placed in slot `k` (R18, R24). -/
abbrev State.cardsPlaced (s : State) (k : Nat) (c : Card) : CardTable :=
  ⟨Table.put s.cards.slots k (.inUse c), s.cards.inUseCount + 1,
    if s.cardSlotAt k = some .retired then s.cards.retiredCount - 1 else s.cards.retiredCount⟩

theorem State.placeCard_guest {s : State} {c : Card} {i : Nat} {g : Guest} (k : Nat) (hi : c.holder = .guest i)
    (hg : s.guestAt i = some g) :
    s.placeCard k c = { s with
      cards := s.cardsPlaced k c
      roster := { s.roster with guests := Table.put s.roster.guests i { g with cards := g.cards ++ [c.serial] } } } := by
  have hg' : ∀ x, (s.withCards x).guestAt i = some g := fun _ => hg
  simp only [State.placeCard, hi, hg', beq_iff_eq]
  rfl

theorem State.placeCard_other {s : State} {c : Card} (k : Nat) (hi : ∀ i, c.holder ≠ .guest i) :
    s.placeCard k c = { s with cards := s.cardsPlaced k c } := by
  unfold State.placeCard
  simp only [beq_iff_eq]
  cases h : c.holder with
  | guest i => exact absurd h (hi i)
  | service r => rfl
  | officer => rfl

/-- The payload of an ISSUE_CARD by its fields, the class and the marker as numbers. -/
abbrev issuePayload (serial issue cls guest low high first marker last : Nat) : List Byte :=
  e32 serial ++ e8 issue ++ e8 cls ++ e16 guest ++ e16 low ++ e16 high ++ e16 first ++ e8 marker ++ e16 last

section Encoded

variable {serial issue cls guest low high first marker last : Nat} (hs : serial < 4294967296) (hi : issue < 256)
  (hc : cls < 256) (hg : guest < 65536) (hlow : low < 65536) (hhigh : high < 65536) (hf : first < 65536)

include hs hi hc hg hlow hhigh hf

/-- ISSUE_CARD reads the fields that its frame carries. -/
theorem readIssueCard_encoded :
    readIssueCard (issuePayload serial issue cls guest low high first marker last)
      = ⟨serial, issue, cardClasses[cls]?, guest, low, high, first,
        settingAt (issuePayload serial issue cls guest low high first marker last) 14 (last % 65536)⟩ := by
  simp [readIssueCard, List.append_assoc, Nat.mod_eq_of_lt, *]

theorem readIssueCard_validTo (hm : marker < 256) :
    (readIssueCard (issuePayload serial issue cls guest low high first marker last)).validTo.optional
      = if marker = 0 then some none else if marker = 1 then some (some (last % 65536)) else none := by
  rw [readIssueCard_encoded hs hi hc hg hlow hhigh hf, settingAt_optional]
  simp [List.append_assoc, Nat.mod_eq_of_lt hm]

end Encoded

/-- ISSUE_CARD reads the fields of a frame that carries an optional last day. -/
theorem readIssueCard_givenOr {serial issue cls guest low high first : Nat} {last : Option Nat} (junk : Nat)
    (hs : serial < 4294967296) (hi : issue < 256) (hc : cls < 256) (hg : guest < 65536) (hlow : low < 65536)
    (hhigh : high < 65536) (hf : first < 65536) (hl : ∀ d ∈ last, d < 65536) :
    ∃ v : Setting Nat, v.optional = some last ∧ readIssueCard (e32 serial ++ e8 issue ++ e8 cls ++ e16 guest ++ e16 low
        ++ e16 high ++ e16 first ++ givenOr 0 (e16 junk) e16 last)
      = ⟨serial, issue, cardClasses[cls]?, guest, low, high, first, v⟩ := by
  cases last with
  | none =>
    have hread := readIssueCard_encoded (marker := 0) (last := junk) hs hi hc hg hlow hhigh hf
    have hlast := readIssueCard_validTo (marker := 0) (last := junk) hs hi hc hg hlow hhigh hf (by decide)
    rw [hread] at hlast
    exact ⟨_, hlast, by simpa [givenOr] using hread⟩
  | some d =>
    have hread := readIssueCard_encoded (marker := 1) (last := d) hs hi hc hg hlow hhigh hf
    have hlast := readIssueCard_validTo (marker := 1) (last := d) hs hi hc hg hlow hhigh hf (by decide)
    rw [hread, Nat.mod_eq_of_lt (hl d rfl)] at hlast
    rw [Nat.mod_eq_of_lt (hl d rfl)] at hread
    exact ⟨_, hlast, by simpa [givenOr] using hread⟩

/-- Settles O19: the window by its arithmetic, the lookup by the walk, and ISSUE_CARD test by test. -/
theorem issueCardPlaces : Obligations.IssueCardPlaces := by
  refine ⟨fun c serial hc => ?_, fun s serial k c => walkWindow_eq_some, ?_, ?_⟩
  · intro home
    have hhome : homeSlot c serial = home := homeSlot_eq hc serial
    have hlt := homeSlot_lt hc serial
    refine ⟨hhome, hhome ▸ hlt, ?_⟩
    rw [← hhome]
    show [(homeSlot c serial + 0) % c, _, _, _, _, _, _, _] = _
    rw [Nat.add_zero, Nat.mod_eq_of_lt hlt]
  · intro s tag serial issue cls guest low high first marker last h0 hrec hs hi hc hg hlow hhigh hf hm hl f refused
      valid named
    have hread := readIssueCard_encoded (marker := marker) (last := last) hs hi hc hg hlow hhigh hf
    have hlast := readIssueCard_validTo (last := last) hs hi hc hg hlow hhigh hf hm
    rw [Nat.mod_eq_of_lt hl] at hread hlast
    have hrefused : ∀ r, issueCard (issuePayload serial issue cls guest low high first marker last) s = .error (r, []) →
        refused r := fun r hr => next_refused (c := cmdIssueCard) h0 (by decide) rfl (record_admitted hrec) hr
    generalize issuePayload serial issue cls guest low high first marker last = p at hread hlast hrefused
    have hserial : (readIssueCard p).serial = serial := by rw [hread]
    have hcls : (readIssueCard p).cls = cardClasses[cls]? := by rw [hread]
    have hguest : s.namedGuest (readIssueCard p).guest = named := by rw [hread]; rfl
    have hrange : ∀ x d, (cls = 1 ↔ x = .service) → (∀ e, e ∈ d ↔ marker = 1 ∧ e = last) → cls ≤ 2 → marker ≤ 1 →
        ((readIssueCard p).InRange x d ↔ valid) := by
      intro x d hx hd hcls2 hm1
      rw [hread]
      simp only [IssueCardFields.InRange, hd, ← hx, valid]
      grind
    have fields : cls ≤ 2 → marker ≤ 1 → ∃ x d, (readIssueCard p).cls = some x
        ∧ (readIssueCard p).validTo.optional = some d ∧ (cls = 0 ↔ x = .guest)
        ∧ ((readIssueCard p).InRange x d ↔ valid) := by
      intro hcls2 hm1
      obtain ⟨x, hx, h0, h1⟩ : ∃ x, cardClasses[cls]? = some x ∧ (cls = 0 ↔ x = .guest) ∧ (cls = 1 ↔ x = .service) := by
        interval_cases cls <;> simp [cardClasses]
      obtain ⟨d, hd, hmem⟩ : ∃ d, (readIssueCard p).validTo.optional = some d
          ∧ ∀ e, e ∈ d ↔ marker = 1 ∧ e = last := by
        rw [hlast]
        interval_cases marker <;> simp [eq_comm]
      exact ⟨x, d, hcls.trans hx, hd, h0, hrange x d h1 hmem hcls2 hm1⟩
    refine ⟨fun hv => hrefused _ ?_, fun hv hzero => ?_, fun hv hguests => ?_⟩
    · by_cases hk : cls ≤ 2 ∧ marker ≤ 1
      · obtain ⟨x, d, hx, hd, -, hr⟩ := fields hk.1 hk.2
        exact issueCard_range hx hd (mt hr.1 hv)
      · refine issueCard_unknownField ?_
        rcases not_and_or.1 hk with hk | hk
        · exact .inl (hcls.trans (List.getElem?_eq_none (Nat.not_le.1 hk)))
        · exact .inr (by rw [hlast, if_neg (by omega), if_neg (by omega)])
    · obtain ⟨x, d, hx, hd, hx0, hr⟩ := fields hv.2.1 hv.2.2.1
      obtain rfl := hx0.1 hzero
      have stop : ∀ r, issueGuestTests (readIssueCard p) .guest s = .error (r, []) → refused r := fun r hg =>
        hrefused r (issueCard_guestTests hx hd (hr.2 hv) hg)
      rw [← hguest]
      exact ⟨fun hn => stop _ (issueGuestTests_notFound hn), fun g hn =>
        ⟨fun hp => stop _ (issueGuestTests_wrongState hn hp),
          fun hp hl => stop _ (issueGuestTests_limit hn hp hl)⟩⟩
    · obtain ⟨x, d, hx, hd, hx0, hr⟩ := fields hv.2.1 hv.2.2.1
      have pass : issueGuestTests (readIssueCard p) x s = .ok () := by
        cases x with
        | guest =>
          obtain ⟨g, hn, hp, hl⟩ := hguests (hx0.2 rfl)
          exact issueGuestTests_ok (hguest.trans hn) hp hl
        | service => rfl
        | officer => rfl
      rw [← hserial]
      refine ⟨fun hdup => hrefused _ (issueCard_duplicate hx hd (hr.2 hv) pass hdup), fun hnew hfull => hrefused _ ?_⟩
      exact issueCard_crowded hx hd (hr.2 hv) pass hnew (placeSlot_eq_none.2 hfull)
  · intro s tag serial issue guest low high first last junk k h0 hrec hpos hs hi hg hlow hhigh hf hl hnew hk payload
      placed data
    have issued : ∀ cls x, cls < 256 → cardClasses[cls]? = some x →
        (x = .service → 1 ≤ low ∧ low ≤ high ∧ high ≤ 20) →
        (∀ v, issueGuestTests ⟨serial, issue, cardClasses[cls]?, guest, low, high, first, v⟩ x s = .ok ()) →
        exec (.issueCard (frameOf tag (payload cls))) s
          = .next ((s.placeCard k ⟨serial, issue, (match x with
              | .guest => .guest guest | .service => .service ⟨low, high⟩ | .officer => .officer),
            .active, first, last⟩).answered 0x20 (frameOf tag (payload cls)) .done data) := by
      intro cls x hc hx hr ht
      obtain ⟨v, hv, hread⟩ := readIssueCard_givenOr (last := last) junk hs hi hc hg hlow hhigh (first := first)
        (by omega) (fun d hd => by have := hl d hd; omega)
      have hok := issueCard_ok (s := s) (p := payload cls) (cls := x) (last := last) (k := k) (by rw [hread]; exact hx)
        (by rw [hread]; exact hv)
        (by rw [hread]; exact ⟨Nat.ne_of_gt hpos, hf, fun d hd => ⟨(hl d hd).2, (hl d hd).1⟩, hr⟩)
        (by rw [hread]; exact ht v) (by rw [hread]; exact hnew) (by rw [hread, placeSlot_eq]; exact hk)
      rw [hread] at hok
      have hlen : (payload cls).length = 17 := by cases last <;> rfl
      cases x <;> exact next_done (c := cmdIssueCard) h0 (by decide) hlen (record_admitted hrec) hok
    refine ⟨fun g hcap hfind hp hcards => ?_, fun h1 h2 h3 => ?_, ?_⟩
    · have hnamed : s.namedGuest guest = some g := (if_pos hcap).trans hfind
      rw [issued 0 .guest (by decide) rfl (by simp) fun v => issueGuestTests_ok hnamed hp hcards,
        State.placeCard_guest k rfl hfind]
    · rw [issued 1 .service (by decide) rfl (fun _ => ⟨h1, h2, h3⟩) fun _ => rfl, State.placeCard_other k (by simp)]
    · rw [issued 2 .officer (by decide) rfl (by simp) fun _ => rfl, State.placeCard_other k (by simp)]

end Sys2Proof.Machine
end

section
/-! What the operations of the other blocks leave of the cards: the card table and its size as they were, every guest's
card list as it was, no guest newly DEPARTED, and every table in its order (R18, R20, R31). -/

namespace Sys2Proof.Machine

/-- The indices of every table rise. -/
abbrev Tables.Sorted (v : Tables) : Prop :=
  Table.wf v.guests ∧ Table.wf v.cards ∧ Table.wf v.folios ∧ Table.wf v.cabins ∧ Table.wf v.outlets ∧ Table.wf v.slots
    ∧ Table.wf v.posts

/-- The tables and the two card counts, apart from everything else. -/
structure CardBase where
  tables  : Tables
  inUse   : Nat
  retired : Nat

def State.cardBase (s : State) : CardBase := ⟨s.tables, s.cards.inUseCount, s.cards.retiredCount⟩

/-- A guest record in the place of another holds the same cards and is not newly DEPARTED. -/
abbrev Guest.Keeps (g h : Guest) : Prop := h.cards = g.cards ∧ (h.presence = .departed → g.presence = .departed)

theorem Guest.Keeps.refl (g : Guest) : g.Keeps g := ⟨rfl, id⟩

theorem Guest.Keeps.trans {f g h : Guest} (h1 : f.Keeps g) (h2 : g.Keeps h) : f.Keeps h :=
  ⟨h2.1.trans h1.1, fun hp => h1.2 (h2.2 hp)⟩

/-- The tables of `b` rise, and the cards and the card lists are those of `a`. -/
structure CardBase.Keeps (a b : CardBase) : Prop where
  sorted  : b.tables.Sorted
  caps    : b.tables.store.caps = a.tables.store.caps
  slots   : b.tables.cards = a.tables.cards
  inUse   : b.inUse = a.inUse
  retired : b.retired = a.retired
  guests  : ∀ k, Option.Rel Guest.Keeps (Table.find a.tables.guests k) (Table.find b.tables.guests k)

/-- The state `t` has the cards of the state `s`, and its tables rise. -/
abbrev State.CardsAs (s t : State) : Prop := s.cardBase.Keeps t.cardBase

namespace State

variable {s t : State}

theorem CardsAs.refl (h : s.TablesSorted) : s.CardsAs s :=
  { sorted := h, caps := rfl, slots := rfl, inUse := rfl, retired := rfl
    guests := fun k => by cases Table.find s.cardBase.tables.guests k <;> constructor; exact .refl _ }

theorem CardsAs.of_eq {u : State} (h : s.CardsAs t) (he : u.cardBase = t.cardBase) : s.CardsAs u := by
  rw [CardsAs, he]; exact h

/-! What lies in no table leaves the cards alone. -/

@[simp] theorem cardBase_withTally (s : State) (x : Tally) : (s.withTally x).cardBase = s.cardBase := rfl
@[simp] theorem cardBase_withMode (s : State) (x : ModeUnit) : (s.withMode x).cardBase = s.cardBase := rfl
@[simp] theorem cardBase_withClock (s : State) (x : Clock) : (s.withClock x).cardBase = s.cardBase := rfl
@[simp] theorem cardBase_withNotice (s : State) (x : NoticeUnit) : (s.withNotice x).cardBase = s.cardBase := rfl
@[simp] theorem cardBase_raise (s : State) (n : Notice) : (s.raise n).cardBase = s.cardBase := rfl
@[simp] theorem cardBase_putLane (s : State) (n : Fin 4) (l : Lane) : (s.putLane n l).cardBase = s.cardBase := rfl

@[simp] theorem cardBase_evaluateWatches (s : State) (b : Tally) : (s.evaluateWatches b).cardBase = s.cardBase := by
  simp [cardBase]

@[simp] theorem cardBase_evaluateCompletion (s : State) : s.evaluateCompletion.cardBase = s.cardBase := by
  simp [cardBase]

theorem cardBase_moveStation (s : State) (g : Guest) (x : Fin 16) : (s.moveStation g x).cardBase = s.cardBase := by
  unfold State.moveStation
  split
  · dsimp only
    split <;> simp
  · rfl

theorem cardBase_markGroup (s : State) (g : Guest) : (s.markGroup g).cardBase = s.cardBase := by
  unfold State.markGroup
  split <;> rfl

theorem cardBase_endMuster (s : State) : s.endMuster.cardBase = s.cardBase := by simp [State.endMuster]

theorem cardBase_receiveRequest (s : State) (n : Fin 4) (r : Request) :
    (s.receiveRequest n r).cardBase = s.cardBase := by
  unfold State.receiveRequest
  dsimp only
  split
  · rfl
  · split
    · split <;> rfl
    · rfl

theorem cardBase_receiveByte (s : State) (n : Fin 4) (b : Byte) : (s.receiveByte n b).cardBase = s.cardBase := by
  unfold State.receiveByte
  split
  · split <;> rfl
  · dsimp only
    split_ifs
    · rfl
    · rfl
    · rfl
    · split
      · rw [cardBase_receiveRequest]; rfl
      · rfl

/-! ### Single writes -/

theorem CardsAs.withRoster {x : Roster} (h : s.CardsAs t) (hw : Table.wf x.guests)
    (hx : ∀ k, Option.Rel Guest.Keeps (s.guestAt k) (Table.find x.guests k)) : s.CardsAs (t.withRoster x) :=
  { h with sorted := ⟨hw, h.sorted.2⟩, guests := hx }

theorem CardsAs.withFolio {x : FolioUnit} (h : s.CardsAs t) (hf : Table.wf x.folios) (ho : Table.wf x.outlets) :
    s.CardsAs (t.withFolio x) := by
  obtain ⟨hg, hk, -, hc, -, hrest⟩ := h.sorted
  exact { h with sorted := ⟨hg, hk, hf, hc, ho, hrest⟩ }

theorem CardsAs.withCabin {x : CabinUnit} (h : s.CardsAs t) (hw : Table.wf x.cabins) : s.CardsAs (t.withCabin x) := by
  obtain ⟨hg, hk, hf, -, hrest⟩ := h.sorted
  exact { h with sorted := ⟨hg, hk, hf, hw, hrest⟩ }

theorem CardsAs.withHold {x : HoldPool} (h : s.CardsAs t) (hw : Table.wf x.slots) : s.CardsAs (t.withHold x) := by
  obtain ⟨hg, hk, hf, hc, ho, -, hp⟩ := h.sorted
  exact { h with sorted := ⟨hg, hk, hf, hc, ho, hw, hp⟩ }

theorem CardsAs.withField {x : FieldUnit} (h : s.CardsAs t) (hw : Table.wf x.posts) : s.CardsAs (t.withField x) := by
  obtain ⟨hg, hk, hf, hc, ho, hh, -⟩ := h.sorted
  exact { h with sorted := ⟨hg, hk, hf, hc, ho, hh, hw⟩ }

theorem CardsAs.wf_guests (h : s.CardsAs t) : Table.wf t.roster.guests := h.sorted.1
theorem CardsAs.wf_folios (h : s.CardsAs t) : Table.wf t.folio.folios := h.sorted.2.2.1
theorem CardsAs.wf_cabins (h : s.CardsAs t) : Table.wf t.cabin.cabins := h.sorted.2.2.2.1
theorem CardsAs.wf_outlets (h : s.CardsAs t) : Table.wf t.folio.outlets := h.sorted.2.2.2.2.1
theorem CardsAs.wf_holds (h : s.CardsAs t) : Table.wf t.hold.slots := h.sorted.2.2.2.2.2.1
theorem CardsAs.wf_posts (h : s.CardsAs t) : Table.wf t.field.posts := h.sorted.2.2.2.2.2.2

theorem CardsAs.putGuest {k : Nat} {g g' : Guest} (h : s.CardsAs t) (hg : s.guestAt k = some g) (hk : g.Keeps g') :
    s.CardsAs (t.putGuest k g') := by
  refine h.withRoster (Table.put_wf h.wf_guests k g') fun j => ?_
  by_cases hj : j = k
  · subst hj
    rw [hg, Table.find_put_self]
    exact .some hk
  · rw [Table.find_put_ne _ hj]
    exact h.guests j

/-- A guest of the later state has kept the cards that the index's guest had. -/
theorem CardsAs.guest {k : Nat} {g' : Guest} (h : s.CardsAs t) (hg : t.guestAt k = some g') :
    ∃ g, s.guestAt k = some g ∧ g.Keeps g' := by
  have hk : Option.Rel Guest.Keeps (s.guestAt k) (t.guestAt k) := h.guests k
  rw [hg] at hk
  generalize s.guestAt k = x at hk
  cases hk with
  | some hr => exact ⟨_, rfl, hr⟩

theorem CardsAs.putFolio (h : s.CardsAs t) (k : Nat) (f : Folio) : s.CardsAs (t.putFolio k f) :=
  h.withFolio (Table.put_wf h.wf_folios k f) h.wf_outlets

theorem CardsAs.freeFolio (h : s.CardsAs t) (k : Nat) : s.CardsAs (t.freeFolio k) :=
  h.withFolio (Table.erase_wf h.wf_folios k) h.wf_outlets

theorem CardsAs.putCabin (h : s.CardsAs t) (k : Nat) (c : Cabin) : s.CardsAs (t.putCabin k c) :=
  h.withCabin (Table.putD_wf h.wf_cabins k c _)

theorem CardsAs.putOutlet (h : s.CardsAs t) (k : Nat) (o : Outlet) : s.CardsAs (t.putOutlet k o) :=
  h.withFolio h.wf_folios (Table.putD_wf h.wf_outlets k o _)

theorem CardsAs.putHold (h : s.CardsAs t) (k : Nat) (x : HoldSlot) : s.CardsAs (t.putHold k x) :=
  h.withHold (Table.putD_wf h.wf_holds k x _)

/-! ### Cabins and folios of a guest -/

theorem CardsAs.enterCabin (h : s.CardsAs t) (cabin : Option Nat) (k : Nat) : s.CardsAs (t.enterCabin cabin k) := by
  cases cabin with
  | none => exact h
  | some c => exact h.putCabin c _

theorem CardsAs.quitCabin (h : s.CardsAs t) (cabin : Option Nat) (k : Nat) : s.CardsAs (t.quitCabin cabin k) := by
  cases cabin with
  | none => exact h
  | some c => exact h.putCabin c _

theorem CardsAs.enterFolio (h : s.CardsAs t) (folio : Option Nat) : s.CardsAs (t.enterFolio folio) := by
  cases folio with
  | none => exact h
  | some k =>
    unfold State.enterFolio State.joinFolio
    dsimp only
    split
    · exact h.putFolio k _
    · exact h

theorem CardsAs.quitFolio (h : s.CardsAs t) (folio : Option Nat) : s.CardsAs (t.quitFolio folio) := by
  cases folio with
  | none => exact h
  | some k =>
    unfold State.quitFolio State.leaveFolio
    dsimp only
    split
    · split
      · exact h.freeFolio k
      · exact h.putFolio k _
    · exact h

/-! ### Presence and musters -/

theorem CardsAs.movePresence {k : Nat} {g g' : Guest} {q : Presence} (h : s.CardsAs t) (hg : s.guestAt k = some g)
    (hc : g'.cards = g.cards) (hq : q ≠ .departed) : s.CardsAs (t.movePresence k g' q) := by
  have hput : s.CardsAs (t.putGuest k { g' with presence := q }) := h.putGuest hg ⟨hc, fun hd => absurd hd hq⟩
  unfold State.movePresence
  dsimp only
  split
  · exact hput.of_eq (by simp)
  · exact hput

theorem CardsAs.correctPresence {k : Nat} {g : Guest} (h : s.CardsAs t) (hg : s.guestAt k = some g) :
    s.CardsAs (t.correctPresence k g) :=
  (h.movePresence hg rfl (show Presence.aboard ≠ .departed by decide)).of_eq (by simp [State.correctPresence])

theorem CardsAs.mapGuests {f : Guest → Guest} (h : s.CardsAs t) (hf : ∀ g : Guest, g.Keeps (f g)) :
    s.CardsAs (t.withRoster { t.roster with guests := Table.mapRecords t.roster.guests f }) := by
  refine h.withRoster (Table.mapRecords_wf h.wf_guests f) fun k => ?_
  have hk : Option.Rel Guest.Keeps (s.guestAt k) (Table.find t.roster.guests k) := h.guests k
  rw [Table.find_mapRecords]
  generalize s.guestAt k = x at hk ⊢
  generalize Table.find t.roster.guests k = y at hk ⊢
  cases hk with
  | some hr => exact .some (hr.trans (hf _))
  | none => exact .none

theorem CardsAs.startMuster (h : s.CardsAs t) : s.CardsAs t.startMuster := by
  have hmap := h.mapGuests (f := fun g => if g.epoch = nextEpoch t.tally.epoch then { g with epoch := 0 } else g)
    fun g => by split <;> exact .refl _
  exact hmap.of_eq (by simp [State.startMuster])

/-! ### Charges and holds -/

theorem CardsAs.changeFolio (h : s.CardsAs t) (k : Nat) (change : Folio → Folio) :
    s.CardsAs (match t.folioAt k with | some f => t.putFolio k (change f) | none => t) := by
  split
  · exact h.putFolio k _
  · exact h

theorem CardsAs.changeGuest (h : s.CardsAs t) (k : Nat) {change : Guest → Guest} (hc : ∀ g : Guest, g.Keeps (change g)) :
    s.CardsAs (match t.guestAt k with | some g => t.putGuest k (change g) | none => t) := by
  split
  · rename_i g' hg'
    obtain ⟨g, hg, hk⟩ := h.guest hg'
    exact h.putGuest hg (hk.trans (hc g'))
  · exact h

theorem CardsAs.postTotal (h : s.CardsAs t) (folio guest x : Nat) : s.CardsAs (t.postTotal folio guest x) :=
  (h.changeFolio folio _).changeGuest guest fun _ => ⟨rfl, id⟩

theorem CardsAs.createHold (h : s.CardsAs t) (k : Nat) (x : Hold) : s.CardsAs (t.createHold k x) :=
  have hslot := h.putHold k ⟨.active x, (t.holdAt k).generation + 1⟩
  have hlist := hslot.withHold (x := { (t.putHold k _).hold with lapsed := _ }) hslot.wf_holds
  (hlist.changeFolio x.folio _).changeGuest x.guest fun _ => ⟨rfl, id⟩

theorem CardsAs.releaseHeld (h : s.CardsAs t) (k : Nat) (x : Hold) : s.CardsAs (t.releaseHeld k x) :=
  (h.changeFolio x.folio _).changeGuest x.guest fun _ => ⟨rfl, id⟩

theorem CardsAs.endHold (h : s.CardsAs t) (k : Nat) (x : Hold) : s.CardsAs (t.endHold k x) :=
  (h.releaseHeld k x).putHold k _

theorem CardsAs.lapseHold (h : s.CardsAs t) (k : Nat) (x : Hold) : s.CardsAs (t.lapseHold k x) :=
  have hslot := (h.releaseHeld k x).putHold k ⟨.lapsed x, (t.holdAt k).generation⟩
  hslot.withHold hslot.wf_holds

theorem CardsAs.lapseExpiring (h : s.CardsAs t) (v : Nat) : s.CardsAs (t.lapseExpiring v) :=
  List.foldlRecOn (motive := s.CardsAs) (t.expiring v) _ h fun _ ht e _ => ht.lapseHold e.1 e.2

theorem CardsAs.releaseSlot (h : s.CardsAs t) (k : Nat) : s.CardsAs (t.releaseSlot k) := by
  unfold State.releaseSlot
  split
  · exact h.endHold k _
  · exact h
  · exact h

theorem CardsAs.releaseHolds (h : s.CardsAs t) (holds : List Nat) : s.CardsAs (t.releaseHolds holds) :=
  List.foldlRecOn (motive := s.CardsAs) holds _ h fun _ ht k _ => ht.releaseSlot k

/-! ### The clock and the inputs -/

theorem wf_installOutlets (x : Table Outlet) : Table.wf (installOutlets x) := by
  induction x with
  | nil => exact .nil
  | cons e x ih => exact Table.putD_wf ih e.1 _ _

theorem CardsAs.attemptRollover (h : s.CardsAs t) : s.CardsAs t.attemptRollover := by
  unfold State.attemptRollover
  split
  · exact h.withFolio (x := { t.folio with currencies := _, outlets := _ }) h.wf_folios (wf_installOutlets _)
  · exact h

theorem CardsAs.tickMinute (h : s.CardsAs t) : s.CardsAs t.tickMinute := by
  have hc : ∀ c : Clock, s.CardsAs (t.withClock c) := fun _ => h
  unfold State.tickMinute
  dsimp only
  generalize (if t.clock.minute = 1439 then 0 else t.clock.minute + 1) = minute
  split
  · exact (hc _).attemptRollover
  · exact hc _

theorem CardsAs.arriveSecond (h : s.CardsAs t) : s.CardsAs t.arriveSecond := by
  have ht : ∀ (c : Clock) (v : Nat), s.CardsAs ((t.withClock c).lapseExpiring v) :=
    fun c v => CardsAs.lapseExpiring (t := t.withClock c) h v
  unfold State.arriveSecond
  dsimp only
  generalize (if t.clock.second + 1 = 60 then 0 else t.clock.second + 1) = second
  split
  · exact (ht _ _).tickMinute
  · exact ht _ _

end State

end Sys2Proof.Machine
end

section
/-! The commands and events that leave the cards as they were: all but those of the card table, the enrolment, departure
and retirement of a guest, and the starts of a scrub. -/

namespace Sys2Proof.Machine

/-! ### Bodies of commands -/

/-- A body that leaves the cards as they were. -/
abbrev SparesCards (body : List Byte → State → Verdict (State × List Byte)) : Prop :=
  ∀ (p : List Byte) (s : State), s.TablesSorted → Yields (body p s) (fun x => s.CardsAs x.1)

theorem ReadsOnly.sparesCards {body : List Byte → State → Verdict (State × List Byte)} (h : ReadsOnly body) :
    SparesCards body := fun p s hs => (h p s).mono fun x (hx : x.1 = s) => hx.symm ▸ .refl hs

theorem lockVoyage_sparesCards : SparesCards lockVoyage := fun p s hs => by
  simp only [lockVoyage, yields_bind, yields_check, yields_pure]
  exact fun _ => { State.CardsAs.refl hs with caps := rfl }

theorem setLaneDecks_sparesCards : SparesCards setLaneDecks := fun p s hs => by
  simp only [setLaneDecks, yields_bind, yields_need, yields_check, yields_pure]
  exact fun _ _ _ => { State.CardsAs.refl hs with caps := rfl }

theorem setDeck_sparesCards : SparesCards setDeck := fun p s hs => by
  simp only [setDeck, yields_bind, yields_need, yields_check, yields_pure]
  intro k _ _ _ _ _ _
  have hstore : s.CardsAs (s.withStore { s.store with deckMap := putCell s.store.deckMap k (readSetDeck p).value }) :=
    { State.CardsAs.refl hs with caps := rfl }
  exact hstore.withCabin (x := { s.cabin with cabins := [] }) .nil

theorem setCabin_sparesCards : SparesCards setCabin := fun p s hs => by
  simp only [setCabin, yields_bind, yields_need, yields_check, yields_pure]
  intros
  exact (State.CardsAs.refl hs).putCabin _ _

theorem setOverride_sparesCards : SparesCards setOverride := fun p s hs => by
  simp only [setOverride, yields_bind, yields_need, yields_check, yields_pure]
  intros
  exact State.CardsAs.refl hs

theorem clearOverride_sparesCards : SparesCards clearOverride := fun p s hs => by
  simp only [clearOverride, yields_bind, yields_need, yields_pure]
  intros
  exact State.CardsAs.refl hs

theorem State.CardsAs.amend {s : State} {k : Nat} {g g' : Guest} (hs : s.TablesSorted) (hg : s.guestAt k = some g)
    (hk : g.Keeps g') : s.CardsAs (s.amend k g g') := by
  have hcabin : s.CardsAs (if g'.cabin = g.cabin then s else (s.quitCabin g.cabin k).enterCabin g'.cabin k) := by
    split
    · exact .refl hs
    · exact ((CardsAs.refl hs).quitCabin g.cabin k).enterCabin g'.cabin k
  unfold State.amend
  generalize (if g'.cabin = g.cabin then s else (s.quitCabin g.cabin k).enterCabin g'.cabin k) = t at *
  have hfolio : s.CardsAs (if g'.folio = g.folio then t else (t.quitFolio g.folio).enterFolio g'.folio) := by
    split
    · exact hcabin
    · exact (hcabin.quitFolio g.folio).enterFolio g'.folio
  dsimp only
  generalize (if g'.folio = g.folio then t else (t.quitFolio g.folio).enterFolio g'.folio) = u at *
  refine (hfolio.putGuest hg hk).of_eq ?_
  split <;> simp [cardBase_moveStation]

theorem amendGuest_sparesCards : SparesCards amendGuest := fun p s hs => by
  simp only [amendGuest, yields_bind, yields_need, yields_check, yields_pure]
  intro g hg
  intros
  exact .amend hs (State.guestAt_of_namedGuest hg) ⟨rfl, id⟩

theorem setPresence_sparesCards : SparesCards setPresence := fun p s hs => by
  simp only [setPresence, yields_bind, yields_need, yields_check, yields_ite, yields_pure]
  intro q _ hq g hg _
  refine ⟨fun _ => .refl hs, fun _ => ?_⟩
  exact ((State.CardsAs.refl hs).movePresence (State.guestAt_of_namedGuest hg) rfl hq).of_eq (by simp)

theorem startMuster_sparesCards : SparesCards startMusterCommand := fun p s hs => by
  unfold startMusterCommand
  split
  · exact yields_ok.2 (.refl hs)
  · exact yields_ok.2 (State.CardsAs.refl hs).startMuster

theorem openFolio_sparesCards : SparesCards openFolio := fun p s hs => by
  simp only [openFolio, yields_bind, yields_check, yields_pure]
  intros
  exact (State.CardsAs.refl hs).putFolio _ _

theorem amendFolio_sparesCards : SparesCards amendFolio := fun p s hs => by
  simp only [amendFolio, yields_bind, yields_need, yields_check, yields_pure]
  intros
  exact (State.CardsAs.refl hs).putFolio _ _

theorem postPayment_sparesCards : SparesCards postPayment := fun p s hs => by
  simp only [postPayment, yields_bind, yields_check, yields_pure]
  exact fun _ _ _ => (State.CardsAs.refl hs).putFolio _ _

theorem postCharge_sparesCards : SparesCards postCharge := fun p s hs => by
  simp only [postCharge, yields_bind, yields_check, yields_pure]
  exact fun _ _ _ => (State.CardsAs.refl hs).putFolio _ _

theorem settleFolio_sparesCards : SparesCards settleFolio := fun p s hs => by
  simp only [settleFolio, yields_bind, yields_need, yields_check, yields_ite, yields_pure]
  intros
  exact ⟨fun _ => (State.CardsAs.refl hs).freeFolio _, fun _ => (State.CardsAs.refl hs).putFolio _ _⟩

theorem setCurrency_sparesCards : SparesCards setCurrency := fun p s hs => by
  simp only [setCurrency, yields_bind, yields_need, yields_check, yields_pure]
  intros
  exact State.CardsAs.refl hs

theorem setOutlet_sparesCards : SparesCards setOutlet := fun p s hs => by
  simp only [setOutlet, yields_bind, yields_need, yields_pure]
  intros
  exact (State.CardsAs.refl hs).putOutlet _ _

theorem releaseFolioHolds_sparesCards : SparesCards releaseFolioHolds := fun p s hs => by
  simp only [releaseFolioHolds, yields_bind, yields_need, yields_pure]
  exact fun f _ => (State.CardsAs.refl hs).releaseHolds f.holds

theorem setGangway_sparesCards : SparesCards setGangway := fun p s hs => by
  simp only [setGangway, yields_bind, yields_need, yields_pure]
  intros
  exact State.CardsAs.refl hs

theorem setTallyWatch_sparesCards : SparesCards setTallyWatch := fun p s hs => by
  simp only [setTallyWatch, yields_bind, yields_need, yields_ite, yields_pure]
  intros
  refine ⟨fun _ => ?_, fun _ => State.CardsAs.refl hs⟩
  unfold State.armWatch
  split <;> exact State.CardsAs.refl hs

theorem setWatchGroups_sparesCards : SparesCards setWatchGroups := fun _ _ hs => yields_ok.2 (State.CardsAs.refl hs)
theorem setLockdown_sparesCards : SparesCards setLockdown := fun _ _ hs => yields_ok.2 (State.CardsAs.refl hs)
theorem stopCharging_sparesCards : SparesCards stopCharging := fun _ _ hs => yields_ok.2 (State.CardsAs.refl hs)
theorem haltField_sparesCards : SparesCards haltField := fun _ _ hs => yields_ok.2 (State.CardsAs.refl hs)
theorem resumeField_sparesCards : SparesCards resumeField := fun _ _ hs => yields_ok.2 (State.CardsAs.refl hs)

theorem setStations_sparesCards : SparesCards setStations := fun p s hs => by
  simp only [setStations, yields_ok]
  split
  · exact (State.CardsAs.refl hs).of_eq (by simp)
  · exact State.CardsAs.refl hs

theorem setAlarmInput_sparesCards : SparesCards setAlarmInput := fun p s hs => by
  simp only [setAlarmInput, yields_bind, yields_need, yields_pure]
  intros
  exact State.CardsAs.refl hs

theorem endMuster_sparesCards : SparesCards endMusterCommand := fun p s hs => by
  simp only [endMusterCommand, yields_bind, yields_pure]
  intro _ _
  split
  · exact (State.CardsAs.refl hs).of_eq (State.cardBase_endMuster s)
  · exact .refl hs

theorem clearLockdown_sparesCards : SparesCards clearLockdown := fun p s hs => by
  simp only [clearLockdown, yields_bind, yields_pure]
  exact fun _ _ => State.CardsAs.refl hs

theorem resumeCharging_sparesCards : SparesCards resumeCharging := fun p s hs => by
  simp only [resumeCharging, yields_bind, yields_pure]
  exact fun _ _ => State.CardsAs.refl hs

theorem setClock_sparesCards : SparesCards setClock := fun p s hs => by
  simp only [setClock, yields_bind, yields_check, yields_pure]
  exact fun _ => State.CardsAs.refl hs

theorem shiftLocalTime_sparesCards : SparesCards shiftLocalTime := fun p s hs => by
  have hc : ∀ c : Clock, s.CardsAs (s.withClock c) := fun _ => State.CardsAs.refl hs
  simp only [shiftLocalTime, yields_bind, yields_check, yields_pure]
  intro _ _
  unfold State.shiftMinute
  dsimp only
  split
  · exact (hc _).attemptRollover
  · exact hc _

theorem setRolloverMinute_sparesCards : SparesCards setRolloverMinute := fun p s hs => by
  simp only [setRolloverMinute, yields_bind, yields_check, yields_pure]
  exact fun _ => State.CardsAs.refl hs

theorem addPost_sparesCards : SparesCards addPost := fun p s hs => by
  simp only [addPost, yields_bind, yields_need, yields_check, yields_pure]
  intros
  exact (State.CardsAs.refl hs).withField (Table.put_wf (State.CardsAs.refl hs).wf_posts _ _)

theorem removePost_sparesCards : SparesCards removePost := fun p s hs => by
  simp only [removePost, yields_bind, yields_need, yields_pure]
  intros
  exact (State.CardsAs.refl hs).withField (Table.erase_wf (State.CardsAs.refl hs).wf_posts _)

theorem setNotices_sparesCards : SparesCards setNotices := fun p s hs => by
  simp only [setNotices, yields_bind, yields_need, yields_pure]
  intros
  exact State.CardsAs.refl hs

theorem clearNotices_sparesCards : SparesCards clearNotices := fun p s hs => by
  simp only [clearNotices, yields_ok]
  split <;> exact State.CardsAs.refl hs

/-! ### Decisions -/

namespace State

variable {s t : State}

theorem CardsAs.admitOccupant (hs : s.TablesSorted) (i k : Nat) :
    Yields (s.admitOccupant i k) (fun x => s.CardsAs x.state) := by
  unfold State.admitOccupant
  split
  · exact yields_error
  · rename_i g hg
    have hcorrect := (CardsAs.refl hs).correctPresence hg
    split
    · split
      · exact yields_error
      · exact yields_ok.2 (.refl hs)
      · exact yields_ok.2 hcorrect
      · exact yields_ok.2 hcorrect
    · exact yields_error

theorem CardsAs.admitByClass (hs : s.TablesSorted) (deck i : Nat) (c : Resolution) :
    Yields (s.admitByClass deck i c) (fun x => s.CardsAs x.state) := by
  simp only [State.admitByClass, yields_bind, yields_test]
  intro _
  split
  · exact admitOccupant hs i _
  · simp only [State.admitService, yields_bind, yields_test, yields_pure]
    exact fun _ _ _ => .refl hs
  · exact yields_ok.2 (.refl hs)

theorem CardsAs.decideEntry (hs : s.TablesSorted) (n : Fin 4) (r : Request) :
    s.CardsAs (decideEntry n r s).state := by
  refine decided_keeps (CardsAs.refl hs) ?_
  simp only [yields_bind, yields_test]
  intro _ place _ c _
  unfold State.admitCard
  split
  · exact yields_ok.2 (.refl hs)
  · simp only [yields_bind, yields_test, yields_ite]
    exact fun _ _ _ => ⟨fun _ => yields_ok.2 (.refl hs), fun _ => admitByClass hs _ _ _⟩

theorem CardsAs.decidePrivacy (hs : s.TablesSorted) (n : Fin 4) (r : Request) :
    s.CardsAs (decidePrivacy n r s).state := by
  refine decided_keeps (CardsAs.refl hs) ?_
  simp only [yields_bind, yields_pure]
  exact fun _ _ => (CardsAs.refl hs).putCabin _ _

theorem CardsAs.decideCharge (hs : s.TablesSorted) (n : Fin 4) (r : Request) :
    s.CardsAs (decideCharge n r s).state := by
  refine decided_keeps (CardsAs.refl hs) ?_
  simp only [yields_bind, yields_pure]
  exact fun _ _ => (CardsAs.refl hs).postTotal _ _ _

theorem CardsAs.decideBalance (hs : s.TablesSorted) (n : Fin 4) (r : Request) :
    s.CardsAs (decideBalance n r s).state := by
  refine decided_keeps (CardsAs.refl hs) ?_
  simp only [yields_bind, yields_pure]
  exact fun _ _ => .refl hs

theorem CardsAs.decideAuthorise (hs : s.TablesSorted) (n : Fin 4) (r : Request) :
    s.CardsAs (decideAuthorise n r s).state := by
  refine decided_keeps (CardsAs.refl hs) ?_
  simp only [yields_bind, yields_pure]
  exact fun _ _ => (CardsAs.refl hs).createHold _ _

theorem CardsAs.decideComplete (hs : s.TablesSorted) (n : Fin 4) (r : Request) :
    s.CardsAs (decideComplete n r s).state := by
  refine decided_keeps (CardsAs.refl hs) ?_
  simp only [yields_bind, yields_pure]
  exact fun _ _ => ((CardsAs.refl hs).endHold _ _).postTotal _ _ _

theorem CardsAs.decideVoid (hs : s.TablesSorted) (n : Fin 4) (r : Request) :
    s.CardsAs (decideVoid n r s).state := by
  refine decided_keeps (CardsAs.refl hs) ?_
  simp only [yields_bind, yields_pure]
  exact fun _ _ => (CardsAs.refl hs).endHold _ _

/-- No gate move departs a guest (R120). -/
theorem intendedMove_ne_departed {d : Direction} {p q : Presence} (h : intendedMove d p = some q) : q ≠ .departed := by
  rintro rfl
  cases d <;> cases p <;> cases h

theorem gateTests_move (n : Fin 4) (r : Request) (s : State) :
    Yields (gateTests n r s) (fun x => s.guestAt x.guestIndex = some x.guest ∧ x.presence ≠ .departed) := by
  simp only [gateTests, yields_bind, yields_test, yields_demand]
  intro _ post _ _
  refine (tallyGuest_enrolled _ s).mono fun x hx _ => ?_
  split
  · exact yields_error
  · rename_i q hq
    split
    · exact yields_pure.2 ⟨hx, intendedMove_ne_departed hq⟩
    · exact yields_error

theorem CardsAs.decideGate (hs : s.TablesSorted) (n : Fin 4) (r : Request) :
    s.CardsAs (decideGate n r s).state := by
  refine decided_keeps (CardsAs.refl hs) ?_
  simp only [yields_bind, yields_pure]
  refine (gateTests_move n r s).mono fun x ⟨hg, hq⟩ => ?_
  exact ((CardsAs.refl hs).movePresence (g' := { x.guest with lastPass := some s.clock.voyage }) hg rfl hq).of_eq
    (by simp [State.passGate, cardBase_markGroup])

theorem CardsAs.musterTap {k : Nat} {g : Guest} (hs : s.TablesSorted) (hg : s.guestAt k = some g) (n : Fin 16) :
    s.CardsAs (s.musterTap n k g).state := by
  have hcorrect : s.CardsAs (s.correctAtReader k g) := by
    unfold State.correctAtReader
    split
    · exact (CardsAs.refl hs).correctPresence hg
    · exact .refl hs
  have hmuster : ∀ g' : Guest, g.Keeps g' → s.CardsAs ((s.correctAtReader k g).musterGuest k g') := fun g' hk =>
    (hcorrect.putGuest hg (g' := { g' with epoch := (s.correctAtReader k g).tally.epoch }) hk).of_eq
      (by simp [State.musterGuest])
  unfold State.musterTap
  dsimp only
  split
  · exact hcorrect
  · refine hmuster _ ?_
    split
    · exact ⟨rfl, fun h => by cases h⟩
    · exact .refl g

theorem CardsAs.decideMuster (hs : s.TablesSorted) (n : Fin 4) (r : Request) :
    s.CardsAs (decideMuster n r s).state := by
  refine decided_keeps (CardsAs.refl hs) ?_
  simp only [yields_bind, yields_pure]
  exact (musterTests_enrolled n r s).mono fun x hx => musterTap hs hx _

/-! ### Alarm inputs and the time base -/

theorem CardsAs.assertInput (h : s.CardsAs t) (n : Fin 4) : s.CardsAs (t.assertInput n) := by
  have hp : s.CardsAs (t.putInput n ((t.inputAt n).qualified true)) := h
  show s.CardsAs ((t.putInput n _).requestMode _)
  unfold State.requestMode
  split
  · split
    · exact hp
    · exact hp.startMuster
  · exact hp
  · exact hp
  · exact hp

theorem CardsAs.tickInput (h : s.CardsAs t) (n : Fin 4) : s.CardsAs (t.tickInput n) := by
  unfold State.tickInput
  split
  · exact h
  · split
    · exact h
    · unfold State.qualifyInput
      split
      · exact h.assertInput n
      · split <;> exact h

theorem CardsAs.tickClock (h : s.CardsAs t) : s.CardsAs t.tickClock := by
  unfold State.tickClock
  split
  · split
    · exact h
    · exact h.arriveSecond
  · exact h

theorem CardsAs.changeScrub (h : s.CardsAs t) (x : Option Nat) :
    s.CardsAs (t.withStore { t.store with scrub := x }) := { h with caps := h.caps }

theorem CardsAs.completeScrub (h : s.CardsAs t) : s.CardsAs t.completeScrub := by
  unfold State.completeScrub
  dsimp only
  split <;> exact h.changeScrub none

/-- A period of the time base leaves the cards as they were. -/
theorem CardsAs.tick (hs : s.TablesSorted) : s.CardsAs s.tick := by
  have hinputs : s.CardsAs ((List.finRange 4).foldl State.tickInput s.tickClock) :=
    List.foldlRecOn (motive := s.CardsAs) _ _ (CardsAs.refl hs).tickClock fun _ ht n _ => ht.tickInput n
  unfold State.tick State.tickScrub
  split
  · exact hinputs
  · split
    · exact hinputs.changeScrub _
    · exact hinputs.completeScrub

end State

end Sys2Proof.Machine
end

section
/-! The card table as a whole: changes of every card at once, and the two card counts after one slot is written
(R18, R20, R23). -/

namespace Sys2Proof.Machine

namespace Table

variable {α : Type}

/-- Tables whose indices rise are equal when they list the same record at every index. -/
theorem ext_find {t u : Table α} (ht : Table.wf t) (hu : Table.wf u) (h : ∀ k, Table.find t k = Table.find u k) :
    t = u := by
  have pairs : ∀ {v : Table α}, Table.wf v → List.Pairwise (fun a b => a.1 < b.1) v := fun hv => List.pairwise_map.1 hv
  have nodup : ∀ {v : Table α}, Table.wf v → v.Nodup := fun hv =>
    (pairs hv).imp fun {a b} hlt => by rintro rfl; exact Nat.lt_irrefl _ hlt
  refine List.Perm.eq_of_pairwise (le := fun a b => a.1 < b.1) (fun a b _ _ hab hba => absurd hab (Nat.lt_asymm hba))
    (pairs ht) (pairs hu) ?_
  refine (List.perm_ext_iff_of_nodup (nodup ht) (nodup hu)).2 fun e => ?_
  rw [Table.mem_iff_find ht e.1 e.2, Table.mem_iff_find hu e.1 e.2, h]

/-- Writing at a listed index is a change of every record that turns on the record listed there alone. -/
theorem put_eq_mapRecords {t : Table α} (hw : Table.wf t) {k : Nat} {a : α} {f : α → α} (hk : Table.find t k = some a)
    (hf : ∀ j b, j ≠ k → Table.find t j = some b → f b = b) : Table.put t k (f a) = Table.mapRecords t f := by
  refine ext_find (Table.put_wf hw k _) (Table.mapRecords_wf hw f) fun j => ?_
  rw [Table.find_mapRecords]
  by_cases hj : j = k
  · rw [hj, Table.find_put_self, hk, Option.map_some]
  · rw [Table.find_put_ne t hj]
    cases hb : Table.find t j with
    | none => rfl
    | some b => rw [Option.map_some, hf j b hj hb]

theorem mapRecords_eq_self {t : Table α} (hw : Table.wf t) {f : α → α} (hf : ∀ j b, Table.find t j = some b → f b = b) :
    Table.mapRecords t f = t := by
  refine ext_find (Table.mapRecords_wf hw f) hw fun j => ?_
  rw [Table.find_mapRecords]
  cases hb : Table.find t j with
  | none => rfl
  | some b => rw [Option.map_some, hf j b hb]

theorem mapRecords_mapRecords (t : Table α) (f g : α → α) :
    Table.mapRecords (Table.mapRecords t f) g = Table.mapRecords t (g ∘ f) := by
  simp [Table.mapRecords, Function.comp_def]

theorem put_put {t : Table α} (hw : Table.wf t) (k : Nat) (a b : α) :
    Table.put (Table.put t k a) k b = Table.put t k b := by
  refine ext_find (Table.put_wf (Table.put_wf hw k a) k b) (Table.put_wf hw k b) fun j => ?_
  by_cases hj : j = k
  · rw [hj, Table.find_put_self, Table.find_put_self]
  · rw [Table.find_put_ne _ hj, Table.find_put_ne _ hj, Table.find_put_ne _ hj]

theorem put_find {t : Table α} (hw : Table.wf t) {k : Nat} {a : α} (hk : Table.find t k = some a) :
    Table.put t k a = t := by
  refine ext_find (Table.put_wf hw k a) hw fun j => ?_
  by_cases hj : j = k
  · rw [hj, Table.find_put_self, hk]
  · rw [Table.find_put_ne _ hj]

/-- The number of records that meet a test, after the record at a listed index is replaced. -/
theorem countP_put {t : Table α} (hw : Table.wf t) {k : Nat} {a : α} (hk : Table.find t k = some a) (b : α)
    (p : Nat × α → Bool) :
    (Table.put t k b).countP p + (if p (k, a) then 1 else 0) = t.countP p + (if p (k, b) then 1 else 0) := by
  induction t with
  | nil => simp at hk
  | cons e t ih =>
    obtain ⟨i, x⟩ := e
    obtain ⟨hlow, hw⟩ := Table.wf_cons.1 hw
    simp only [Table.find] at hk
    split at hk
    · obtain rfl := Option.some.inj hk
      subst i
      simp only [Table.put, Nat.lt_irrefl, if_false, if_true, List.countP_cons]
      omega
    · have hik : i < k := hlow _ (Table.find_mem hk)
      have h1 : ¬ k < i := by omega
      have h2 : ¬ k = i := by omega
      have := ih hw hk
      simp only [Table.put, h1, h2, if_false, List.countP_cons]
      omega

/-- The same after a record is listed at a free index. -/
theorem countP_put_free {t : Table α} {k : Nat} (hk : Table.find t k = none) (b : α) (p : Nat × α → Bool) :
    (Table.put t k b).countP p = t.countP p + (if p (k, b) then 1 else 0) := by
  rw [(put_perm hk b).countP_eq, List.countP_cons]

end Table

/-! ### The two counts -/

theorem State.cardCountsExact_iff {s : State} : s.CardCountsExact ↔
    s.cards.inUseCount = s.cards.slots.countP (fun e => e.2 != .retired)
      ∧ s.cards.retiredCount = s.cards.slots.countP (fun e => e.2 == .retired) := by
  simp only [State.CardCountsExact, List.countP_eq_length_filter]

/-! ### A change of every card -/

/-- A change of the card that a slot holds. -/
def CardSlot.mapCard (u : Card → Card) (x : CardSlot) : CardSlot :=
  match x with
  | .retired => .retired
  | .inUse c => .inUse (u c)

@[simp] theorem CardSlot.mapCard_retired (u : Card → Card) : CardSlot.retired.mapCard u = .retired := rfl
@[simp] theorem CardSlot.mapCard_inUse (u : Card → Card) (c : Card) : (CardSlot.inUse c).mapCard u = .inUse (u c) := rfl

theorem CardSlot.mapCard_comp (u v : Card → Card) : CardSlot.mapCard v ∘ CardSlot.mapCard u = CardSlot.mapCard (v ∘ u) := by
  funext x
  cases x <;> rfl

/-- Every slot that holds a card of one of these serials becomes RETIRED. -/
def CardSlot.retireIn (serials : List Nat) (x : CardSlot) : CardSlot :=
  match x with
  | .retired => .retired
  | .inUse c => if c.serial ∈ serials then .retired else .inUse c

theorem CardSlot.retireIn_comp (n : Nat) (serials : List Nat) :
    CardSlot.retireIn serials ∘ CardSlot.retireIn [n] = CardSlot.retireIn (n :: serials) := by
  funext x
  cases x with
  | retired => rfl
  | inUse c =>
    by_cases hn : c.serial = n
    · simp [CardSlot.retireIn, hn]
    · simp [CardSlot.retireIn, hn]

/-- A change of the cards of these serials. -/
def Card.changeIn (serials : List Nat) (u : Card → Card) (c : Card) : Card := if c.serial ∈ serials then u c else c

/-- The card table with every slot changed. -/
def State.mapSlots (s : State) (f : CardSlot → CardSlot) : State :=
  s.withCards { s.cards with slots := Table.mapRecords s.cards.slots f }

theorem State.cardSlotAt_mapSlots (s : State) (f : CardSlot → CardSlot) (k : Nat) :
    (s.mapSlots f).cardSlotAt k = (s.cardSlotAt k).map f := Table.find_mapRecords _ _ _

/-- A walk after a change of every slot, when the change takes the serial to no other card and no other to it. -/
theorem walkWindow_mapRecords {slots : Table CardSlot} {f : CardSlot → CardSlot} {u : Card → Card} {n : Nat}
    (hhit : ∀ c, c.serial = n → f (.inUse c) = .inUse (u c) ∧ (u c).serial = n)
    (hpass : ∀ x, (∀ c, x = .inUse c → c.serial ≠ n) → ∀ c, f x = .inUse c → c.serial ≠ n) (window : List Nat) :
    walkWindow (Table.mapRecords slots f) n window = (walkWindow slots n window).map (fun e => (e.1, u e.2)) := by
  induction window with
  | nil => rfl
  | cons k rest ih =>
    have hf : Table.find (Table.mapRecords slots f) k = (Table.find slots k).map f := Table.find_mapRecords _ _ _
    cases hk : Table.find slots k with
    | none => simp [walkWindow, hf, hk]
    | some x =>
      rw [hk, Option.map_some] at hf
      by_cases hx : ∀ c, x = .inUse c → c.serial ≠ n
      · rw [walkWindow_cons_passed rest ⟨by simp [hf], fun d hd => hpass x hx d (by simpa [hf] using hd)⟩,
          walkWindow_cons_passed rest ⟨by simp [hk], fun d hd => hx d (by simpa [hk] using hd)⟩, ih]
      · simp only [not_forall, not_not] at hx
        obtain ⟨c, rfl, hc⟩ := hx
        obtain ⟨hfc, huc⟩ := hhit c hc
        rw [walkWindow_cons_hit rest (hf.trans (congrArg some hfc)) huc, walkWindow_cons_hit rest hk hc, Option.map_some]

/-- A change of the cards that keeps their serials changes what every lookup finds, and not where. -/
theorem State.lookupCard_mapCard {s : State} {u : Card → Card} (hu : ∀ c, (u c).serial = c.serial) (n : Nat) :
    (s.mapSlots (.mapCard u)).lookupCard n = (s.lookupCard n).map (fun e => (e.1, u e.2)) := by
  refine walkWindow_mapRecords (fun c hc => ⟨rfl, (hu c).trans hc⟩) (fun x hx c hc => ?_) _
  cases x with
  | retired => cases hc
  | inUse d =>
    obtain rfl := CardSlot.inUse.inj hc
    rw [hu]
    exact hx d rfl

/-- Retiring the cards of some serials leaves the lookups of every other one. -/
theorem walkWindow_retireIn {slots : Table CardSlot} {serials : List Nat} {n : Nat} (hn : n ∉ serials)
    (window : List Nat) : walkWindow (Table.mapRecords slots (.retireIn serials)) n window = walkWindow slots n window := by
  have h := walkWindow_mapRecords (slots := slots) (f := .retireIn serials) (u := id) (n := n)
    (fun c hc => ⟨by simp [CardSlot.retireIn, hc, hn], hc⟩) (fun x hx c hc => ?_) window
  · simpa using h
  · cases x with
    | retired => cases hc
    | inUse d =>
      simp only [CardSlot.retireIn] at hc
      split at hc
      · cases hc
      · exact CardSlot.inUse.inj hc ▸ hx d rfl

/-! ### The properties of the cards, slot by slot and guest by guest -/

/-- Every card is found by its serial in its own slot. -/
abbrev State.FindsCards (s : State) : Prop :=
  ∀ k c, s.cardSlotAt k = some (.inUse c) → s.lookupCard c.serial = some (k, c)

/-- What CardsSound says beyond the tables' order and the counts, through the lookups. -/
structure State.CardsCohere (s : State) : Prop where
  found  : s.FindsCards
  named  : ∀ k c i, s.cardSlotAt k = some (.inUse c) → c.holder = .guest i →
    ∃ g, s.guestAt i = some g ∧ c.serial ∈ g.cards ∧ (g.presence = .departed → c.state = .suspended)
  listed : ∀ i g, s.guestAt i = some g → g.cards.Nodup ∧ g.cards.length ≤ 4
    ∧ ∀ n ∈ g.cards, ∃ k c, s.lookupCard n = some (k, c) ∧ c.holder = .guest i

theorem State.mem_cards_iff {s : State} (hw : Table.wf s.cards.slots) {k : Nat} {c : Card} :
    (∃ x, (k, x) ∈ s.cards.slots ∧ x.card = some c) ↔ s.cardSlotAt k = some (.inUse c) := by
  constructor
  · rintro ⟨x, hx, hc⟩
    cases x with
    | retired => cases hc
    | inUse d => exact Option.some.inj hc ▸ (Table.mem_iff_find hw k _).1 hx
  · exact fun h => ⟨_, (Table.mem_iff_find hw k _).2 h, rfl⟩

theorem Card.guestIndex_eq_some {c : Card} {i : Nat} : c.guestIndex = some i ↔ c.holder = .guest i := by
  unfold Card.guestIndex
  split <;> simp_all

theorem State.cardsFound_iff {s : State} (hw : Table.wf s.cards.slots) : s.CardsFound ↔ s.FindsCards := by
  constructor
  · intro h k c hk
    obtain ⟨x, hx, hc⟩ := (State.mem_cards_iff hw).2 hk
    exact h _ hx c hc
  · rintro h ⟨k, x⟩ hx c hc
    exact h k c ((State.mem_cards_iff hw).1 ⟨x, hx, hc⟩)

theorem cardsSound_iff {s : State} : s.CardsSound ↔ s.TablesSorted ∧ s.CardCountsExact ∧ s.CardsCohere := by
  constructor
  · rintro ⟨hsort, hfound, hcounts, hnames, hlists⟩
    have ⟨hguests, hslots, _⟩ := hsort
    refine ⟨hsort, hcounts, (State.cardsFound_iff hslots).1 hfound, fun k c i hk hc => ?_, fun i g hg => ?_⟩
    · obtain ⟨x, hx, hxc⟩ := (State.mem_cards_iff hslots).2 hk
      obtain ⟨hsome, hg⟩ := hnames _ hx c hxc i (Card.guestIndex_eq_some.2 hc)
      obtain ⟨g, hgi⟩ := Option.isSome_iff_exists.1 hsome
      exact ⟨g, hgi, hg g hgi⟩
    · obtain ⟨hnodup, hlen, hfind⟩ := hlists _ ((Table.mem_iff_find hguests i g).2 hg)
      refine ⟨hnodup, hlen, fun n hn => ?_⟩
      obtain ⟨⟨k, c⟩, hl, hc⟩ := Option.map_eq_some_iff.1 (hfind n hn)
      exact ⟨k, c, hl, hc⟩
  · rintro ⟨hsort, hcounts, h⟩
    have ⟨hguests, hslots, _⟩ := hsort
    refine ⟨hsort, (State.cardsFound_iff hslots).2 h.found, hcounts, ?_, ?_⟩
    · rintro ⟨k, x⟩ hx c hxc i hi
      obtain ⟨g, hg, hmem, hdep⟩ := h.named k c i ((State.mem_cards_iff hslots).1 ⟨x, hx, hxc⟩)
        (Card.guestIndex_eq_some.1 hi)
      rw [hg]
      exact ⟨rfl, fun g' hg' => Option.some.inj hg' ▸ ⟨hmem, hdep⟩⟩
    · rintro ⟨i, g⟩ hg
      obtain ⟨hnodup, hlen, hfind⟩ := h.listed i g ((Table.mem_iff_find hguests i g).1 hg)
      refine ⟨hnodup, hlen, fun n hn => ?_⟩
      obtain ⟨k, c, hl, hc⟩ := hfind n hn
      rw [hl, Option.map_some, hc]

/-- No two slots hold a card of the same serial. -/
theorem State.FindsCards.unique {s : State} (h : s.FindsCards) {j k : Nat} {c d : Card}
    (hj : s.cardSlotAt j = some (.inUse c)) (hk : s.cardSlotAt k = some (.inUse d)) (hs : c.serial = d.serial) :
    j = k ∧ c = d := by
  have := (h j c hj).symm.trans (hs ▸ h k d hk)
  exact Prod.mk.inj (Option.some.inj this)

end Sys2Proof.Machine
end

section
/-! What each change of cards, card lists and guests leaves of the soundness of the cards (R18, R20, R23, R31). -/

namespace Sys2Proof.Machine

/-- A card made SUSPENDED (R28, R31). -/
abbrev Card.suspend (c : Card) : Card := { c with state := .suspended }

namespace State

variable {s t : State}

theorem CardsSound.wf_slots (hs : s.CardsSound) : Table.wf s.cards.slots := hs.1.2.1

theorem CardsSound.finds (hs : s.CardsSound) : s.FindsCards := (cardsSound_iff.1 hs).2.2.found

theorem CardsSound.cohere (hs : s.CardsSound) : s.CardsCohere := (cardsSound_iff.1 hs).2.2

/-! ### The guests change, the card table does not -/

/-- With the card table as it was: every guest that a card names keeps its list, and departs with that card SUSPENDED; a
guest is of an earlier one's list or has no cards. -/
theorem CardsSound.of_guests (hs : s.CardsSound) (hsort : t.TablesSorted) (hcards : t.cards = s.cards)
    (hcaps : t.store.caps = s.store.caps)
    (hkeep : ∀ k c i g, s.cardSlotAt k = some (.inUse c) → c.holder = .guest i → s.guestAt i = some g →
      c.serial ∈ g.cards → ∃ g', t.guestAt i = some g' ∧ g'.cards = g.cards
        ∧ (g'.presence = .departed → g.presence = .departed ∨ c.state = .suspended))
    (hback : ∀ i g', t.guestAt i = some g' → (∃ g, s.guestAt i = some g ∧ g'.cards = g.cards) ∨ g'.cards = []) :
    t.CardsSound := by
  obtain ⟨-, hcounts, h⟩ := cardsSound_iff.1 hs
  have hslot : ∀ k, t.cardSlotAt k = s.cardSlotAt k := fun k => by rw [cardSlotAt, hcards]; rfl
  have hlook : ∀ n, t.lookupCard n = s.lookupCard n := fun n => by rw [lookupCard, hcards, hcaps]; rfl
  refine cardsSound_iff.2 ⟨hsort, by rw [CardCountsExact, hcards]; exact hcounts, fun k c hk => ?_,
    fun k c i hk hi => ?_, fun i g' hg' => ?_⟩
  · rw [hslot] at hk
    rw [hlook]
    exact h.found k c hk
  · rw [hslot] at hk
    obtain ⟨g, hg, hmem, hdep⟩ := h.named k c i hk hi
    obtain ⟨g', hg', hlist, hdep'⟩ := hkeep k c i g hk hi hg hmem
    exact ⟨g', hg', hlist ▸ hmem, fun hp => (hdep' hp).elim hdep id⟩
  · simp only [hlook]
    rcases hback i g' hg' with ⟨g, hg, hlist⟩ | hnil
    · rw [hlist]
      exact h.listed i g hg
    · simp [hnil]

/-- A state with the cards of a sound one is sound. -/
theorem CardsSound.of_cardsAs (hs : s.CardsSound) (h : s.CardsAs t) : t.CardsSound := by
  have hcards : t.cards = s.cards := by
    have h1 : t.cards.slots = s.cards.slots := h.slots
    have h2 : t.cards.inUseCount = s.cards.inUseCount := h.inUse
    have h3 : t.cards.retiredCount = s.cards.retiredCount := h.retired
    cases ht : t.cards; cases hs' : s.cards
    simp_all
  have hrel : ∀ i, Option.Rel Guest.Keeps (s.guestAt i) (t.guestAt i) := h.guests
  refine hs.of_guests h.sorted hcards h.caps (fun k c i g _ _ hg _ => ?_) fun i g' hg' => ?_
  · have := hrel i
    rw [hg] at this
    generalize t.guestAt i = x at this
    cases this with
    | some hk => exact ⟨_, rfl, hk.1, fun hp => .inl (hk.2 hp)⟩
  · obtain ⟨g, hg, hk⟩ := h.guest hg'
    exact .inl ⟨g, hg, hk.1⟩

/-- A guest ENROLLED without cards at a free index. -/
theorem CardsSound.enrolled {k n : Nat} {g : Guest} (hs : s.CardsSound) (hk : s.guestAt k = none) (hg : g.cards = []) :
    (s.withRoster ⟨Table.put s.roster.guests k g, n⟩).CardsSound := by
  refine hs.of_guests ⟨Table.put_wf hs.1.1 k g, hs.1.2⟩ rfl rfl (fun j c i g' _ _ hi _ => ?_) fun i g' hi => ?_
  · have hik : i ≠ k := by rintro rfl; rw [hk] at hi; cases hi
    exact ⟨g', (Table.find_put_ne _ hik g).trans hi, rfl, .inl⟩
  · by_cases hik : i = k
    · subst hik
      exact .inr (Option.some.inj ((Table.find_put_self _ _ _).symm.trans hi) ▸ hg)
    · exact .inl ⟨g', (Table.find_put_ne _ hik g).symm.trans hi, rfl⟩

/-- A guest without cards leaves the roster. -/
theorem CardsSound.unenrolled {k n : Nat} (hs : s.CardsSound) (hk : ∀ g, s.guestAt k = some g → g.cards = []) :
    (s.withRoster ⟨Table.erase s.roster.guests k, n⟩).CardsSound := by
  refine hs.of_guests ⟨Table.erase_wf hs.1.1 k, hs.1.2⟩ rfl rfl (fun j c i g _ _ hi hmem => ?_) fun i g' hi => ?_
  · have hik : i ≠ k := by
      rintro rfl
      rw [hk g hi] at hmem
      exact List.not_mem_nil hmem
    exact ⟨g, (Table.find_erase_ne _ hik).trans hi, rfl, .inl⟩
  · refine .inl ⟨g', ?_, rfl⟩
    have hik : i ≠ k := by
      rintro rfl
      exact Option.some_ne_none _ (hi.symm.trans (Table.find_erase_self hs.1.1 i))
    exact (Table.find_erase_ne _ hik).symm.trans hi

/-! ### Cards change, the slots and the lists do not -/

/-- Every card changed but for its serial and its holder, none of a DEPARTED guest to ACTIVE. -/
theorem CardsSound.mapCard {u : Card → Card} (hs : s.CardsSound) (hserial : ∀ c, (u c).serial = c.serial)
    (hholder : ∀ c, (u c).holder = c.holder)
    (hstate : ∀ k c i g, s.cardSlotAt k = some (.inUse c) → c.holder = .guest i → s.guestAt i = some g →
      g.presence = .departed → (u c).state = .suspended) : (s.mapSlots (.mapCard u)).CardsSound := by
  obtain ⟨⟨hguests, hslots, hrest⟩, hcounts, h⟩ := cardsSound_iff.1 hs
  have hslot : ∀ k c', (s.mapSlots (.mapCard u)).cardSlotAt k = some (.inUse c') →
      ∃ c, s.cardSlotAt k = some (.inUse c) ∧ u c = c' := by
    intro k c' hk
    rw [cardSlotAt_mapSlots] at hk
    obtain ⟨x, hx, hc⟩ := Option.map_eq_some_iff.1 hk
    cases x with
    | retired => cases hc
    | inUse c => exact ⟨c, hx, CardSlot.inUse.inj hc⟩
  refine cardsSound_iff.2 ⟨⟨hguests, Table.mapRecords_wf hslots _, hrest⟩, ?_, fun k c' hk => ?_, fun k c' i hk hi => ?_,
    fun i g hg => ?_⟩
  · have hkind : ∀ x : CardSlot, (x.mapCard u == .retired) = (x == .retired) := fun x => by
      cases x with
      | retired => rfl
      | inUse c => simp
    rw [cardCountsExact_iff] at hcounts ⊢
    simpa [mapSlots, Table.mapRecords, List.countP_map, Function.comp_def, bne, hkind] using hcounts
  · obtain ⟨c, hc, rfl⟩ := hslot k c' hk
    rw [hserial, lookupCard_mapCard hserial, h.found k c hc, Option.map_some]
  · obtain ⟨c, hc, rfl⟩ := hslot k c' hk
    rw [hholder] at hi
    obtain ⟨g, hg, hmem, -⟩ := h.named k c i hc hi
    exact ⟨g, hg, (hserial c).symm ▸ hmem, hstate k c i g hc hi hg⟩
  · obtain ⟨hnodup, hlen, hfind⟩ := h.listed i g hg
    refine ⟨hnodup, hlen, fun n hn => ?_⟩
    obtain ⟨k, c, hl, hc⟩ := hfind n hn
    exact ⟨k, u c, by rw [lookupCard_mapCard hserial, hl, Option.map_some], (hholder c).trans hc⟩

/-- Writing a card that a lookup found is a change of the cards of its serial. -/
theorem putCard_eq_mapSlots {n k : Nat} {c : Card} (hw : Table.wf s.cards.slots) (hf : s.FindsCards)
    (hl : s.lookupCard n = some (k, c)) (u : Card → Card) :
    s.putCard k (u c) = s.mapSlots (.mapCard (.changeIn [n] u)) := by
  have hslot := cardSlotAt_of_lookupCard hl
  have hserial := serial_of_lookupCard hl
  have hput := Table.put_eq_mapRecords (f := CardSlot.mapCard (.changeIn [n] u)) hw hslot fun j x hj hx => by
    cases x with
    | retired => rfl
    | inUse d =>
      have hd : d.serial ≠ n := fun hd => hj (hf.unique hx hslot (hd.trans hserial.symm)).1
      simp [Card.changeIn, hd]
  rw [mapSlots, ← hput]
  simp [State.putCard, Card.changeIn, hserial]

/-- The change of no card. -/
theorem mapSlots_eq_self {f : CardSlot → CardSlot} (hw : Table.wf s.cards.slots)
    (hf : ∀ k x, s.cardSlotAt k = some x → f x = x) : s.mapSlots f = s := by
  rw [mapSlots, Table.mapRecords_eq_self hw hf]
  rfl

theorem mapSlots_mapSlots (s : State) (f g : CardSlot → CardSlot) :
    (s.mapSlots f).mapSlots g = s.mapSlots (g ∘ f) := by
  simp only [mapSlots, withCards_cards, Table.mapRecords_mapRecords]
  rfl

theorem FindsCards.mapCard {u : Card → Card} (hf : s.FindsCards) (hu : ∀ c, (u c).serial = c.serial) :
    (s.mapSlots (.mapCard u)).FindsCards := by
  intro k c' hk
  rw [cardSlotAt_mapSlots] at hk
  obtain ⟨x, hx, hc⟩ := Option.map_eq_some_iff.1 hk
  cases x with
  | retired => cases hc
  | inUse c =>
    obtain rfl := CardSlot.inUse.inj hc
    rw [hu, lookupCard_mapCard hu, hf k c hx, Option.map_some]

theorem changeIn_serial {u : Card → Card} (hu : ∀ c, (u c).serial = c.serial) (serials : List Nat) (c : Card) :
    (c.changeIn serials u).serial = c.serial := by
  unfold Card.changeIn
  split
  · exact hu c
  · rfl

theorem changeIn_suspend_comp (n : Nat) (serials : List Nat) :
    Card.changeIn serials Card.suspend ∘ Card.changeIn [n] Card.suspend = Card.changeIn (n :: serials) Card.suspend := by
  funext c
  by_cases hn : c.serial = n
  · simp [Card.changeIn, hn]
  · simp [Card.changeIn, hn]

/-- Suspending the cards of a list changes their states and nothing else (R31). -/
theorem suspendCards_eq (serials : List Nat) (hw : Table.wf s.cards.slots) (hf : s.FindsCards) :
    s.suspendCards serials = s.mapSlots (.mapCard (.changeIn serials Card.suspend)) := by
  induction serials generalizing s with
  | nil =>
    refine (mapSlots_eq_self hw fun k x _ => ?_).symm
    cases x <;> simp [Card.changeIn]
  | cons n serials ih =>
    have hfirst : s.suspendCards (n :: serials)
        = (s.mapSlots (.mapCard (.changeIn [n] Card.suspend))).suspendCards serials := by
      rw [suspendCards, List.foldl_cons]
      cases hl : s.lookupCard n with
      | some e => rw [← putCard_eq_mapSlots hw hf hl Card.suspend]; rfl
      | none =>
        have hnone : s.mapSlots (.mapCard (.changeIn [n] Card.suspend)) = s := mapSlots_eq_self hw fun k x hx => by
          cases x with
          | retired => rfl
          | inUse c =>
            have hc : c.serial ≠ n := by
              rintro rfl
              rw [hf k c hx] at hl
              cases hl
            simp [Card.changeIn, hc]
        rw [hnone]
        rfl
    rw [hfirst, ih (s := s.mapSlots _) (Table.mapRecords_wf hw _)
      (hf.mapCard (changeIn_serial (u := Card.suspend) (fun _ => rfl) [n])), mapSlots_mapSlots,
      CardSlot.mapCard_comp, changeIn_suspend_comp]

/-! ### A card is retired -/

/-- The card table with slot `k` retired (R18, R30). -/
abbrev cardsRetired (s : State) (k : Nat) : CardTable :=
  ⟨Table.put s.cards.slots k .retired, s.cards.inUseCount - 1, s.cards.retiredCount + 1⟩

/-- Retiring the slot that a lookup found retires the cards of its serial. -/
theorem put_retired_eq {n k : Nat} {c : Card} (hs : s.CardsSound) (hl : s.lookupCard n = some (k, c)) :
    Table.put s.cards.slots k .retired = Table.mapRecords s.cards.slots (.retireIn [n]) := by
  have hslot := cardSlotAt_of_lookupCard hl
  have hserial := serial_of_lookupCard hl
  rw [← Table.put_eq_mapRecords hs.wf_slots hslot fun j x hj hx => ?_]
  · simp [CardSlot.retireIn, hserial]
  · cases x with
    | retired => rfl
    | inUse d =>
      have hd : d.serial ≠ n := fun hd => hj (hs.finds.unique hx hslot (hd.trans hserial.symm)).1
      simp [CardSlot.retireIn, hd]

/-- A card found by its serial leaves its slot, the counts move, and its guest's list loses the serial. -/
theorem CardsSound.retired {n k : Nat} {c : Card} (hs : s.CardsSound) (hl : s.lookupCard n = some (k, c))
    (hsort : t.TablesSorted) (hcards : t.cards = s.cardsRetired k) (hcaps : t.store.caps = s.store.caps)
    (hguests : ∀ i, t.guestAt i
      = (s.guestAt i).map (fun g => if c.holder = .guest i then { g with cards := g.cards.erase n } else g)) :
    t.CardsSound := by
  obtain ⟨-, hcounts, h⟩ := cardsSound_iff.1 hs
  have hslot := cardSlotAt_of_lookupCard hl
  have hlook : ∀ m, m ≠ n → t.lookupCard m = s.lookupCard m := fun m hm => by
    have hslots : t.cards.slots = Table.mapRecords s.cards.slots (.retireIn [n]) := by
      rw [← put_retired_eq hs hl, hcards]
    rw [lookupCard, hslots, hcaps]
    exact walkWindow_retireIn (by simpa using hm) _
  have hleft : ∀ j d, t.cardSlotAt j = some (.inUse d) → s.cardSlotAt j = some (.inUse d) ∧ d.serial ≠ n := by
    intro j d hj
    rw [cardSlotAt, hcards] at hj
    by_cases hjk : j = k
    · rw [hjk, Table.find_put_self] at hj
      cases hj
    · rw [Table.find_put_ne _ hjk] at hj
      exact ⟨hj, fun hd => hjk (h.found.unique hj hslot (hd.trans (serial_of_lookupCard hl).symm)).1⟩
  refine cardsSound_iff.2 ⟨hsort, ?_, fun j d hj => ?_, fun j d i hj hi => ?_, fun i g' hg' => ?_⟩
  · rw [cardCountsExact_iff] at hcounts ⊢
    have h1 := Table.countP_put hs.wf_slots hslot .retired (fun e => e.2 != .retired)
    have h2 := Table.countP_put hs.wf_slots hslot .retired (fun e => e.2 == .retired)
    simp only [hcards, hcounts]
    simp at h1 h2
    omega
  · obtain ⟨hj, hd⟩ := hleft j d hj
    rw [hlook _ hd, h.found j d hj]
  · obtain ⟨hj, hd⟩ := hleft j d hj
    obtain ⟨g, hg, hmem, hdep⟩ := h.named j d i hj hi
    rw [hguests, hg]
    by_cases hc : c.holder = .guest i
    · exact ⟨_, rfl, by simpa [hc, List.mem_erase_of_ne hd] using hmem, by simpa [hc] using hdep⟩
    · exact ⟨_, rfl, by simpa [hc] using hmem, by simpa [hc] using hdep⟩
  · rw [hguests] at hg'
    obtain ⟨g, hg, rfl⟩ := Option.map_eq_some_iff.1 hg'
    obtain ⟨hnodup, hlen, hfind⟩ := h.listed i g hg
    split
    · refine ⟨hnodup.erase n, Nat.le_trans List.length_erase_le hlen, fun m hm => ?_⟩
      obtain ⟨hmn, hm⟩ := (List.Nodup.mem_erase_iff hnodup).1 hm
      rw [hlook m hmn]
      exact hfind m hm
    · rename_i hc
      refine ⟨hnodup, hlen, fun m hm => ?_⟩
      have hmn : m ≠ n := by
        rintro rfl
        obtain ⟨j, d, hd, hdi⟩ := hfind m hm
        rw [hl] at hd
        exact hc ((Prod.mk.inj (Option.some.inj hd)).2 ▸ hdi)
      rw [hlook m hmn]
      exact hfind m hm

theorem CardsSound.retireCard {n k : Nat} {c : Card} (hs : s.CardsSound) (hl : s.lookupCard n = some (k, c)) :
    (s.retireCard k c).CardsSound := by
  have hslot := cardSlotAt_of_lookupCard hl
  have hserial := serial_of_lookupCard hl
  have ⟨hguests, hslots, hrest⟩ := hs.1
  by_cases hi : ∃ i, c.holder = .guest i
  · obtain ⟨i, hi⟩ := hi
    obtain ⟨g, hg, -⟩ := hs.cohere.named k c i hslot hi
    rw [retireCard_guest k hi hg]
    refine hs.retired hl ⟨Table.put_wf hguests i _, Table.put_wf hslots k _, hrest⟩ rfl rfl fun j => ?_
    by_cases hj : j = i
    · subst hj
      rw [hg, guestAt, Table.find_put_self, Option.map_some, if_pos hi, hserial]
    · have hne : c.holder ≠ .guest j := by rw [hi]; simp [Ne.symm hj]
      simp [guestAt, Table.find_put_ne _ hj, hne]
  · rw [retireCard_other k (by simpa using hi)]
    refine hs.retired hl ⟨hguests, Table.put_wf hslots k _, hrest⟩ rfl rfl fun j => ?_
    have hne : c.holder ≠ .guest j := fun hj => hi ⟨j, hj⟩
    simp [hne, guestAt]

/-! ### A card is placed -/

/-- A new serial takes the first slot of its window that is FREE or RETIRED; a GUEST card joins the list of a guest that
is not DEPARTED and holds fewer than 4. -/
theorem CardsSound.placed {k : Nat} {c : Card} (hs : s.CardsSound) (hnew : s.lookupCard c.serial = none)
    (hk : placeSlot s.cards.slots (probeWindow s.store.caps.cards c.serial) = some k)
    (hc : ∀ i, c.holder = .guest i → ∃ g, s.guestAt i = some g ∧ g.presence ≠ .departed ∧ g.cards.length < 4)
    (hsort : t.TablesSorted) (hcards : t.cards = s.cardsPlaced k c) (hcaps : t.store.caps = s.store.caps)
    (hguests : ∀ i, t.guestAt i
      = (s.guestAt i).map (fun g => if c.holder = .guest i then { g with cards := g.cards ++ [c.serial] } else g)) :
    t.CardsSound := by
  obtain ⟨-, hcounts, h⟩ := cardsSound_iff.1 hs
  rw [placeSlot_eq] at hk
  have hfree : s.cardSlotAt k = none ∨ s.cardSlotAt k = some .retired := by simpa using List.find?_some hk
  have hself : t.cardSlotAt k = some (.inUse c) := by rw [cardSlotAt, hcards, Table.find_put_self]
  have hother : ∀ j, j ≠ k → t.cardSlotAt j = s.cardSlotAt j := fun j hj => by
    rw [cardSlotAt, hcards, Table.find_put_ne _ hj]; rfl
  have hlook : ∀ m e, s.lookupCard m = some e → t.lookupCard m = some e := by
    rintro m ⟨j, d⟩ hm
    have hmc : c.serial ≠ m := by rintro rfl; rw [hnew] at hm; cases hm
    obtain ⟨before, after, hw, hj, hd, hpass⟩ := walkWindow_eq_some.1 hm
    have hjk : j ≠ k := by
      rintro rfl
      rcases hfree with hf | hf <;> cases hf.symm.trans hj
    refine walkWindow_eq_some.2 ⟨before, after, by rw [hcaps]; exact hw, (hother j hjk).trans hj, hd, fun i hi => ?_⟩
    by_cases hik : i = k
    · subst hik
      have hti : Table.find t.cards.slots i = some (.inUse c) := hself
      exact ⟨by simp [hti], fun x hx => by rwa [← CardSlot.inUse.inj (Option.some.inj (hti.symm.trans hx))]⟩
    · have := hpass i hi
      rw [PassedOver, show Table.find t.cards.slots i = Table.find s.cards.slots i from hother i hik]
      exact this
  have hfound : t.lookupCard c.serial = some (k, c) := by
    obtain ⟨-, before, after, hw, hused⟩ := List.find?_eq_some_iff_append.1 hk
    refine walkWindow_eq_some.2 ⟨before, after, by rw [hcaps]; exact hw, hself, rfl, fun i hi => ?_⟩
    have hin : ∃ d, s.cardSlotAt i = some (.inUse d) := by
      have := hused i hi
      cases hx : s.cardSlotAt i with
      | none => simp [hx] at this
      | some x =>
        cases x with
        | retired => simp [hx] at this
        | inUse d => exact ⟨d, rfl⟩
    obtain ⟨d, hd⟩ := hin
    have hik : i ≠ k := by
      rintro rfl
      rcases hfree with hf | hf <;> cases hf.symm.trans hd
    have hti : Table.find t.cards.slots i = some (.inUse d) := (hother i hik).trans hd
    refine ⟨by simp [hti], fun x hx hxs => ?_⟩
    obtain rfl := CardSlot.inUse.inj (Option.some.inj (hti.symm.trans hx))
    have := h.found i d hd
    rw [hxs, hnew] at this
    cases this
  refine cardsSound_iff.2 ⟨hsort, ?_, fun j d hj => ?_, fun j d i hj hi => ?_, fun i g' hg' => ?_⟩
  · rw [cardCountsExact_iff] at hcounts ⊢
    rcases hfree with hf | hf
    · have h1 := Table.countP_put_free hf (.inUse c) (fun e => e.2 != .retired)
      have h2 := Table.countP_put_free hf (.inUse c) (fun e => e.2 == .retired)
      simp only [hcards, cardsPlaced, hcounts, hf]
      simp at h1 h2
      simp [h1, h2]
    · have h1 := Table.countP_put hs.wf_slots hf (.inUse c) (fun e => e.2 != .retired)
      have h2 := Table.countP_put hs.wf_slots hf (.inUse c) (fun e => e.2 == .retired)
      simp only [hcards, cardsPlaced, hcounts, hf, if_true]
      simp at h1 h2
      omega
  · by_cases hjk : j = k
    · subst hjk
      obtain rfl := CardSlot.inUse.inj (Option.some.inj (hself.symm.trans hj))
      exact hfound
    · exact hlook _ _ (h.found j d ((hother j hjk).symm.trans hj))
  · by_cases hjk : j = k
    · subst hjk
      obtain rfl := CardSlot.inUse.inj (Option.some.inj (hself.symm.trans hj))
      obtain ⟨g, hg, hp, -⟩ := hc i hi
      rw [hguests, hg, Option.map_some, if_pos hi]
      exact ⟨_, rfl, by simp, fun hd => absurd hd hp⟩
    · obtain ⟨g, hg, hmem, hdep⟩ := h.named j d i ((hother j hjk).symm.trans hj) hi
      rw [hguests, hg, Option.map_some]
      refine ⟨_, rfl, ?_, ?_⟩
      · split
        · exact List.mem_append_left _ hmem
        · exact hmem
      · split <;> exact hdep
  · rw [hguests] at hg'
    obtain ⟨g, hg, rfl⟩ := Option.map_eq_some_iff.1 hg'
    obtain ⟨hnodup, hlen, hfind⟩ := h.listed i g hg
    have hkept : ∀ m ∈ g.cards, ∃ j d, t.lookupCard m = some (j, d) ∧ d.holder = .guest i := fun m hm => by
      obtain ⟨j, d, hd, hdi⟩ := hfind m hm
      exact ⟨j, d, hlook m _ hd, hdi⟩
    split
    · rename_i hi
      obtain ⟨g2, hg2, -, hlt⟩ := hc i hi
      obtain rfl := Option.some.inj (hg.symm.trans hg2)
      have hnot : c.serial ∉ g.cards := fun hm => by
        obtain ⟨j, d, hd, -⟩ := hfind _ hm
        rw [hnew] at hd
        cases hd
      refine ⟨?_, by simpa using hlt, fun m hm => ?_⟩
      · rw [List.nodup_append]
        exact ⟨hnodup, by simp, fun a ha b hb => by simp at hb; rintro rfl; exact hnot (hb ▸ ha)⟩
      · rcases List.mem_append.1 hm with hm | hm
        · exact hkept m hm
        · rw [List.mem_singleton.1 hm]
          exact ⟨k, c, hfound, hi⟩
    · exact ⟨hnodup, hlen, hkept⟩

theorem CardsSound.placeCard {k : Nat} {c : Card} (hs : s.CardsSound) (hnew : s.lookupCard c.serial = none)
    (hk : placeSlot s.cards.slots (probeWindow s.store.caps.cards c.serial) = some k)
    (hc : ∀ i, c.holder = .guest i → ∃ g, s.guestAt i = some g ∧ g.presence ≠ .departed ∧ g.cards.length < 4) :
    (s.placeCard k c).CardsSound := by
  have ⟨hguests, hslots, hrest⟩ := hs.1
  by_cases hi : ∃ i, c.holder = .guest i
  · obtain ⟨i, hi⟩ := hi
    obtain ⟨g, hg, -⟩ := hc i hi
    rw [placeCard_guest k hi hg]
    refine hs.placed hnew hk hc ⟨Table.put_wf hguests i _, Table.put_wf hslots k _, hrest⟩ rfl rfl fun j => ?_
    by_cases hj : j = i
    · subst hj
      rw [hg, guestAt, Table.find_put_self, Option.map_some, if_pos hi]
    · have hne : c.holder ≠ .guest j := by rw [hi]; simp [Ne.symm hj]
      simp [guestAt, Table.find_put_ne _ hj, hne]
  · rw [placeCard_other k (by simpa using hi)]
    refine hs.placed hnew hk hc ⟨hguests, Table.put_wf hslots k _, hrest⟩ rfl rfl fun j => ?_
    have hne : c.holder ≠ .guest j := fun hj => hi ⟨j, hj⟩
    simp [hne, guestAt]

/-! ### A guest's whole list is retired -/

/-- Retiring the whole card list of a guest retires the slots of its cards, moves the counts by their number and leaves
the guest's list empty; the cards stay sound (R31). -/
theorem CardsSound.retireCards {k : Nat} {g : Guest} (serials : List Nat) (hs : s.CardsSound)
    (hg : s.guestAt k = some { g with cards := serials }) :
    (s.retireCards serials).CardsSound
      ∧ s.retireCards serials = { s with
        cards := ⟨Table.mapRecords s.cards.slots (.retireIn serials), s.cards.inUseCount - serials.length,
          s.cards.retiredCount + serials.length⟩
        roster := { s.roster with guests := Table.put s.roster.guests k { g with cards := [] } } } := by
  induction serials generalizing s with
  | nil =>
    refine ⟨hs, ?_⟩
    have hslots : Table.mapRecords s.cards.slots (.retireIn []) = s.cards.slots :=
      Table.mapRecords_eq_self hs.wf_slots fun j x _ => by cases x <;> simp [CardSlot.retireIn]
    rw [hslots, Table.put_find hs.1.1 hg]
    rfl
  | cons n serials ih =>
    obtain ⟨hnodup, -, hfind⟩ := hs.cohere.listed k _ hg
    obtain ⟨j, c, hl, hc⟩ := hfind n List.mem_cons_self
    have hserial := serial_of_lookupCard hl
    have hfirst : s.retireCards (n :: serials) = (s.retireCard j c).retireCards serials := by
      rw [State.retireCards, List.foldl_cons, hl]
      rfl
    have hone := retireCard_guest j hc hg
    simp only [hserial, List.erase_cons_head] at hone
    have hg' : (s.retireCard j c).guestAt k = some { g with cards := serials } := by
      rw [hone, guestAt, Table.find_put_self]
    obtain ⟨hsound, hrest⟩ := ih (hs.retireCard hl) hg'
    rw [hfirst]
    refine ⟨hsound, ?_⟩
    rw [hrest, hone]
    simp only [put_retired_eq hs hl, Table.mapRecords_mapRecords, CardSlot.retireIn_comp, Table.put_put hs.1.1,
      List.length_cons, Nat.sub_sub, Nat.add_assoc, Nat.add_comm 1]

/-! ### Departure, retirement and enrolment of a guest -/

/-- A card found by a lookup is written, its serial and its holder kept, and not to ACTIVE for a DEPARTED guest. -/
theorem CardsSound.putCard {n k : Nat} {c : Card} {u : Card → Card} (hs : s.CardsSound)
    (hl : s.lookupCard n = some (k, c)) (hserial : ∀ c, (u c).serial = c.serial) (hholder : ∀ c, (u c).holder = c.holder)
    (hstate : c.state = .suspended → (∃ i g, c.holder = .guest i ∧ s.guestAt i = some g ∧ g.presence = .departed) →
      (u c).state = .suspended) : (s.putCard k (u c)).CardsSound := by
  rw [putCard_eq_mapSlots hs.wf_slots hs.finds hl]
  refine hs.mapCard (changeIn_serial hserial [n]) (fun d => ?_) fun j d i g hj hi hg hp => ?_
  · unfold Card.changeIn
    split
    · exact hholder d
    · rfl
  · obtain ⟨g', hg', -, hdep⟩ := hs.cohere.named j d i hj hi
    obtain rfl := Option.some.inj (hg'.symm.trans hg)
    unfold Card.changeIn
    split
    · rename_i hd
      have hdn : d.serial = c.serial := (by simpa using hd : d.serial = n).trans (serial_of_lookupCard hl).symm
      obtain ⟨-, rfl⟩ := hs.finds.unique hj (cardSlotAt_of_lookupCard hl) hdn
      exact hstate (hdep hp) ⟨i, _, hi, hg, hp⟩
    · exact hdep hp

theorem of_cardBase_eq (h : t.cardBase = s.cardBase) :
    t.cards = s.cards ∧ t.store = s.store ∧ t.roster.guests = s.roster.guests
      ∧ (s.TablesSorted → t.TablesSorted) := by
  obtain ⟨htables, hin, hret⟩ := CardBase.mk.inj h
  have hslots : t.cards.slots = s.cards.slots := congrArg Tables.cards htables
  refine ⟨?_, congrArg Tables.store htables, congrArg Tables.guests htables, fun hs => ?_⟩
  · cases ht : t.cards; cases hs : s.cards
    simp_all
  · exact show t.tables.Sorted from htables ▸ hs

/-- With the list of guest `k` suspended, the cards of that guest and of every DEPARTED one are SUSPENDED. -/
theorem CardsSound.suspended_of_changeIn {k j i : Nat} {g : Guest} {c : Card} (hs : s.CardsSound)
    (hg : s.guestAt k = some g) (hj : s.cardSlotAt j = some (.inUse c)) (hi : c.holder = .guest i)
    (hor : (∃ g', s.guestAt i = some g' ∧ g'.presence = .departed) ∨ i = k) :
    (c.changeIn g.cards Card.suspend).state = .suspended := by
  obtain ⟨g', hg', hmem, hdep⟩ := hs.cohere.named j c i hj hi
  unfold Card.changeIn
  split
  · rfl
  · rename_i hnot
    rcases hor with ⟨g2, hg2, hp⟩ | rfl
    · obtain rfl := Option.some.inj (hg'.symm.trans hg2)
      exact hdep hp
    · obtain rfl := Option.some.inj (hg.symm.trans hg')
      exact absurd hmem hnot

/-- Departing a guest with every card of its list suspended (R31, R48). -/
theorem CardsSound.depart {k : Nat} {g : Guest} (hs : s.CardsSound) (hg : s.guestAt k = some g) :
    (((s.movePresence k g .departed).evaluateWatches s.tally).suspendCards g.cards).CardsSound := by
  have hbase : ((s.movePresence k g .departed).evaluateWatches s.tally).cardBase
      = (s.putGuest k { g with presence := .departed }).cardBase := by
    unfold State.movePresence
    dsimp only
    split <;> simp
  generalize (s.movePresence k g .departed).evaluateWatches s.tally = t at hbase
  obtain ⟨hcards, hstore, hroster, hsort⟩ := of_cardBase_eq hbase
  replace hcards : t.cards = s.cards := hcards
  replace hstore : t.store = s.store := hstore
  have hsorted := hsort ⟨Table.put_wf hs.1.1 k _, hs.1.2⟩
  have hfinds : t.FindsCards := by
    intro j c hj
    rw [cardSlotAt, hcards] at hj
    rw [lookupCard, hcards, hstore]
    exact hs.finds j c hj
  rw [suspendCards_eq g.cards (hcards ▸ hs.wf_slots) hfinds]
  have hsuspended := fun j c i => hs.suspended_of_changeIn hg (j := j) (c := c) (i := i)
  have hmap := hs.mapCard (u := Card.changeIn g.cards Card.suspend) (changeIn_serial (u := Card.suspend) (fun _ => rfl) _)
    (fun c => by unfold Card.changeIn; split <;> rfl)
    (fun j c i g' hj hi hg' hp => hsuspended j c i hj hi (.inl ⟨g', hg', hp⟩))
  have hguest : ∀ i, t.guestAt i = if i = k then some { g with presence := .departed } else s.guestAt i := by
    intro i
    rw [guestAt, hroster]
    split
    · rename_i hik
      rw [hik]
      exact Table.find_put_self _ _ _
    · exact Table.find_put_ne _ ‹_› _
  refine hmap.of_guests ⟨hsorted.1, Table.mapRecords_wf hsorted.2.1 _, hsorted.2.2⟩ ?_ (congrArg Store.caps hstore)
    (fun j c' i g' hj hi hg' _ => ?_) fun i g' hg' => ?_
  · simp only [mapSlots, withCards_cards, hcards]
  · by_cases hik : i = k
    · subst hik
      obtain rfl := Option.some.inj (hg.symm.trans hg')
      rw [cardSlotAt_mapSlots] at hj
      obtain ⟨x, hx, hc⟩ := Option.map_eq_some_iff.1 hj
      refine ⟨_, (hguest i).trans (if_pos rfl), rfl, fun _ => .inr ?_⟩
      cases x with
      | retired => cases hc
      | inUse c =>
        obtain rfl := CardSlot.inUse.inj hc
        refine hsuspended j c i hx ?_ (.inr rfl)
        unfold Card.changeIn at hi
        split at hi <;> exact hi
    · exact ⟨g', (hguest i).trans ((if_neg hik).trans hg'), rfl, .inl⟩
  · have hi := (hguest i).symm.trans hg'
    split at hi
    · rename_i hik
      exact .inl ⟨g, hik ▸ hg, by rw [← Option.some.inj hi]⟩
    · exact .inl ⟨g', hi, rfl⟩

/-- Retiring a guest, whose cards go first (R31, R50). -/
theorem CardsSound.retire {k : Nat} {g : Guest} (hs : s.CardsSound) (hg : s.guestAt k = some g) :
    (s.retire k g).CardsSound := by
  obtain ⟨hcards, heq⟩ := hs.retireCards g.cards hg
  have hgone : (s.retireCards g.cards).guestAt k = some { g with cards := [] } := by
    rw [heq, guestAt, Table.find_put_self]
  have hquit := ((CardsAs.refl hcards.1).quitCabin g.cabin k).quitFolio g.folio
  have hall : (s.retireCards g.cards).CardsAs
      (((((s.retireCards g.cards).quitCabin g.cabin k).quitFolio g.folio).withTally
        ((((s.retireCards g.cards).quitCabin g.cabin k).quitFolio g.folio).tally.mapTotal g.presence (· - 1))
        ).evaluateWatches s.tally) := hquit.of_eq (by simp)
  refine (hcards.of_cardsAs hall).unenrolled fun g' hg' => ?_
  obtain ⟨g2, hg2, hk⟩ := hall.guest hg'
  obtain rfl := Option.some.inj (hgone.symm.trans hg2)
  exact hk.1

/-- Enrolling a guest without cards at a free index (R42). -/
theorem CardsSound.enrol {k : Nat} {g : Guest} (hs : s.CardsSound) (hk : s.guestAt k = none) (hg : g.cards = []) :
    (s.enrol k g).CardsSound := by
  have henrolled := hs.enrolled (n := s.roster.enrolled + 1) hk hg
  refine henrolled.of_cardsAs ((((CardsAs.refl henrolled.1).enterCabin g.cabin k).enterFolio g.folio).of_eq ?_)
  simp [State.enrol]

/-- A scrub leaves no card and no guest (R7). -/
theorem CardsSound.scrub (hs : s.CardsSound) (x : Store) : (s.withStore x).scrub.CardsSound := by
  obtain ⟨-, -, -, -, houtlets, -, hposts⟩ := hs.1
  refine ⟨⟨.nil, .nil, .nil, .nil, houtlets, .nil, hposts⟩, ?_, ⟨rfl, rfl⟩, ?_, ?_⟩ <;>
    exact List.forall_mem_nil _

end State

/-! ### Bodies of the commands that change the cards -/

section Bodies

variable {s : State} (hs : s.CardsSound) (p : List Byte)

include hs

theorem issueCard_keepsCards : Yields (issueCard p s) (fun x => x.1.CardsSound) := by
  simp only [issueCard, yields_bind, yields_need, yields_check, yields_pure]
  intro cls _ last _ _ _ htests hnew k hk
  refine hs.placeCard hnew hk fun i hi => ?_
  cases cls with
  | guest =>
    obtain rfl := Holder.guest.inj hi
    have hyield : Yields (issueGuestTests (readIssueCard p) .guest s) (fun _ =>
        ∃ g, s.guestAt (readIssueCard p).guest = some g ∧ g.presence ≠ .departed ∧ g.cards.length < 4) := by
      simp only [issueGuestTests, yields_bind, yields_need, yields_check]
      exact fun g hg hp hl => ⟨g, State.guestAt_of_namedGuest hg, hp, hl⟩
    exact hyield _ htests
  | service => cases hi
  | officer => cases hi

theorem reissueCard_keepsCards : Yields (reissueCard p s) (fun x => x.1.CardsSound) := by
  simp only [reissueCard, yields_bind, yields_need, yields_check, yields_pure]
  exact fun found hl _ => hs.putCard (u := fun c => { c with issue := found.2.issue + 1 }) hl (fun _ => rfl)
    (fun _ => rfl) fun h _ => h

theorem suspendCard_keepsCards : Yields (suspendCard p s) (fun x => x.1.CardsSound) := by
  simp only [suspendCard, yields_bind, yields_need, yields_pure]
  exact fun found hl => hs.putCard (u := Card.suspend) hl (fun _ => rfl) (fun _ => rfl) fun _ _ => rfl

theorem restoreCard_keepsCards : Yields (restoreCard p s) (fun x => x.1.CardsSound) := by
  simp only [restoreCard, yields_bind, yields_need, yields_check, yields_pure]
  intro found hl hd
  refine hs.putCard (u := fun c => { c with state := .active }) hl (fun _ => rfl) (fun _ => rfl) fun _ hgone => ?_
  rw [State.ownerDeparted_eq_true.2 hgone] at hd
  cases hd

theorem retireCard_keepsCards : Yields (retireCard p s) (fun x => x.1.CardsSound) := by
  simp only [retireCard, yields_bind, yields_need, yields_pure]
  exact fun found hl => hs.retireCard hl

theorem enrolGuest_keepsCards : Yields (enrolGuest p s) (fun x => x.1.CardsSound) := by
  simp only [enrolGuest, yields_bind, yields_need, yields_check, yields_pure]
  intros
  exact hs.enrol (Table.lowestFree_spec hs.1.1 0 fun _ _ => Nat.zero_le _).1 rfl

theorem departGuest_keepsCards : Yields (departGuest p s) (fun x => x.1.CardsSound) := by
  simp only [departGuest, yields_bind, yields_need, yields_check, yields_pure]
  exact fun g hg _ _ => hs.depart (State.guestAt_of_namedGuest hg)

theorem retireGuest_keepsCards : Yields (retireGuest p s) (fun x => x.1.CardsSound) := by
  simp only [retireGuest, yields_bind, yields_need, yields_check, yields_pure]
  exact fun g hg _ _ => hs.retire (State.guestAt_of_namedGuest hg)

theorem configureStore_keepsCards : Yields (configureStore p s) (fun x => x.1.CardsSound) := by
  simp only [configureStore, yields_bind, yields_need, yields_check, yields_pure]
  exact fun _ _ _ => hs.scrub _

theorem endVoyage_keepsCards : Yields (endVoyage p s) (fun x => x.1.CardsSound) := by
  simp only [endVoyage, yields_bind, yields_check, yields_pure]
  exact fun _ _ _ _ => hs.scrub _

end Bodies

/-! ### Every command, event and step -/

theorem cardsSound_linkFree : LinkFree State.CardsSound := fun _ _ _ _ h => h

namespace State

variable {s : State}

/-- A command whose body keeps the cards sound. -/
theorem CardsSound.ofBody (hs : s.CardsSound) {c : Command} {f : HostFrame}
    {body : List Byte → State → Verdict (State × List Byte)}
    (hb : Yields (body f.payload s) (fun x => x.1.CardsSound)) : (hostCommand c f body s).CardsSound :=
  hostCommand_keeps cardsSound_linkFree hs fun _ => hb

/-- A command whose body leaves the cards as they were. -/
theorem CardsSound.ofSparing (hs : s.CardsSound) {c : Command}
    {body : List Byte → State → Verdict (State × List Byte)} (hb : SparesCards body) (f : HostFrame) :
    (hostCommand c f body s).CardsSound :=
  hs.ofBody ((hb f.payload s hs.1).mono fun _ hx => hs.of_cardsAs hx)

/-- A take whose decision leaves the cards as they were. -/
theorem CardsSound.ofDecision (hs : s.CardsSound) {k : RequestKind} {n : Fin 4} {decide : Request → State → Decided}
    (hd : ∀ r, s.CardsAs (decide r s).state) : (takeRequest k n decide s).CardsSound :=
  takeRequest_keeps (fun _ _ _ h => h) hs fun r => hs.of_cardsAs (hd r)

/-- An event that is a second arrival when its condition holds. -/
theorem CardsSound.ofArrival (hs : s.CardsSound) (p : Prop) [Decidable p] :
    (if p then s.arriveSecond else s).CardsSound := by
  split
  · exact hs.of_cardsAs (CardsAs.refl hs.1).arriveSecond
  · exact hs

end State

/-- Every command and event keeps the cards sound. -/
theorem exec_cardsSound {s : State} (hs : s.CardsSound) (c : Instr) : ∃ t, exec c s = .next t ∧ t.CardsSound := by
  have hsame := State.CardsAs.refl hs.1
  cases c with
  | coldStart => exact ⟨_, rfl, reset_cardsSound⟩
  | warmStart => exact ⟨_, rfl, hs⟩
  | scrubComplete =>
    refine ⟨_, rfl, ?_⟩
    split
    · exact hs.of_cardsAs hsame.completeScrub
    · exact hs
  | shortTransaction bytes => exact ⟨_, rfl, hs⟩
  | unknownCommandFrame code f =>
    refine ⟨_, rfl, ?_⟩
    split
    · exact hs
    · unfold unknownCommand
      split <;> exact hs
  | status x => exact ⟨_, rfl, hs⟩
  | fetch x =>
    refine ⟨_, rfl, ?_⟩
    unfold Machine.fetch
    split
    · dsimp only
      split <;> exact hs
    · exact hs
    · exact hs
  | configureStore f =>
    exact ⟨_, rfl, scrubCommand_keeps cardsSound_linkFree hs fun _ => configureStore_keepsCards hs f.payload⟩
  | readStore f => exact ⟨_, rfl, hs.ofSparing readStore_readsOnly.sparesCards f⟩
  | lockVoyage f => exact ⟨_, rfl, hs.ofSparing lockVoyage_sparesCards f⟩
  | endVoyage f =>
    exact ⟨_, rfl, scrubCommand_keeps cardsSound_linkFree hs fun _ => endVoyage_keepsCards hs f.payload⟩
  | setDeck f => exact ⟨_, rfl, hs.ofSparing setDeck_sparesCards f⟩
  | setLaneDecks f => exact ⟨_, rfl, hs.ofSparing setLaneDecks_sparesCards f⟩
  | issueCard f => exact ⟨_, rfl, hs.ofBody (issueCard_keepsCards hs f.payload)⟩
  | reissueCard f => exact ⟨_, rfl, hs.ofBody (reissueCard_keepsCards hs f.payload)⟩
  | suspendCard f => exact ⟨_, rfl, hs.ofBody (suspendCard_keepsCards hs f.payload)⟩
  | restoreCard f => exact ⟨_, rfl, hs.ofBody (restoreCard_keepsCards hs f.payload)⟩
  | retireCard f => exact ⟨_, rfl, hs.ofBody (retireCard_keepsCards hs f.payload)⟩
  | readCard f => exact ⟨_, rfl, hs.ofSparing readCard_readsOnly.sparesCards f⟩
  | enrolGuest f => exact ⟨_, rfl, hs.ofBody (enrolGuest_keepsCards hs f.payload)⟩
  | amendGuest f => exact ⟨_, rfl, hs.ofSparing amendGuest_sparesCards f⟩
  | departGuest f => exact ⟨_, rfl, hs.ofBody (departGuest_keepsCards hs f.payload)⟩
  | retireGuest f => exact ⟨_, rfl, hs.ofBody (retireGuest_keepsCards hs f.payload)⟩
  | lookupGuest f => exact ⟨_, rfl, hs.ofSparing lookupGuest_readsOnly.sparesCards f⟩
  | readGuest f => exact ⟨_, rfl, hs.ofSparing readGuest_readsOnly.sparesCards f⟩
  | findGuests f => exact ⟨_, rfl, hs.ofSparing findGuests_readsOnly.sparesCards f⟩
  | setCabin f => exact ⟨_, rfl, hs.ofSparing setCabin_sparesCards f⟩
  | setOverride f => exact ⟨_, rfl, hs.ofSparing setOverride_sparesCards f⟩
  | clearOverride f => exact ⟨_, rfl, hs.ofSparing clearOverride_sparesCards f⟩
  | readOverrides f => exact ⟨_, rfl, hs.ofSparing readOverrides_readsOnly.sparesCards f⟩
  | readCabin f => exact ⟨_, rfl, hs.ofSparing readCabin_readsOnly.sparesCards f⟩
  | openFolio f => exact ⟨_, rfl, hs.ofSparing openFolio_sparesCards f⟩
  | amendFolio f => exact ⟨_, rfl, hs.ofSparing amendFolio_sparesCards f⟩
  | postPayment f => exact ⟨_, rfl, hs.ofSparing postPayment_sparesCards f⟩
  | postCharge f => exact ⟨_, rfl, hs.ofSparing postCharge_sparesCards f⟩
  | settleFolio f => exact ⟨_, rfl, hs.ofSparing settleFolio_sparesCards f⟩
  | readFolio f => exact ⟨_, rfl, hs.ofSparing readFolio_readsOnly.sparesCards f⟩
  | setCurrency f => exact ⟨_, rfl, hs.ofSparing setCurrency_sparesCards f⟩
  | readCurrencies f => exact ⟨_, rfl, hs.ofSparing readCurrencies_readsOnly.sparesCards f⟩
  | setOutlet f => exact ⟨_, rfl, hs.ofSparing setOutlet_sparesCards f⟩
  | readOutlet f => exact ⟨_, rfl, hs.ofSparing readOutlet_readsOnly.sparesCards f⟩
  | releaseFolioHolds f => exact ⟨_, rfl, hs.ofSparing releaseFolioHolds_sparesCards f⟩
  | readHold f => exact ⟨_, rfl, hs.ofSparing readHold_readsOnly.sparesCards f⟩
  | setGangway f => exact ⟨_, rfl, hs.ofSparing setGangway_sparesCards f⟩
  | setPresence f => exact ⟨_, rfl, hs.ofSparing setPresence_sparesCards f⟩
  | setTallyWatch f => exact ⟨_, rfl, hs.ofSparing setTallyWatch_sparesCards f⟩
  | setWatchGroups f => exact ⟨_, rfl, hs.ofSparing setWatchGroups_sparesCards f⟩
  | readTallies f => exact ⟨_, rfl, hs.ofSparing readTallies_readsOnly.sparesCards f⟩
  | setAlarmInput f => exact ⟨_, rfl, hs.ofSparing setAlarmInput_sparesCards f⟩
  | startMuster f => exact ⟨_, rfl, hs.ofSparing startMuster_sparesCards f⟩
  | setLockdown f => exact ⟨_, rfl, hs.ofSparing setLockdown_sparesCards f⟩
  | stopCharging f => exact ⟨_, rfl, hs.ofSparing stopCharging_sparesCards f⟩
  | endMuster f => exact ⟨_, rfl, hs.ofSparing endMuster_sparesCards f⟩
  | clearLockdown f => exact ⟨_, rfl, hs.ofSparing clearLockdown_sparesCards f⟩
  | resumeCharging f => exact ⟨_, rfl, hs.ofSparing resumeCharging_sparesCards f⟩
  | setStations f => exact ⟨_, rfl, hs.ofSparing setStations_sparesCards f⟩
  | readModes f => exact ⟨_, rfl, hs.ofSparing readModes_readsOnly.sparesCards f⟩
  | setClock f => exact ⟨_, rfl, hs.ofSparing setClock_sparesCards f⟩
  | shiftLocalTime f => exact ⟨_, rfl, hs.ofSparing shiftLocalTime_sparesCards f⟩
  | setRolloverMinute f => exact ⟨_, rfl, hs.ofSparing setRolloverMinute_sparesCards f⟩
  | readClock f => exact ⟨_, rfl, hs.ofSparing readClock_readsOnly.sparesCards f⟩
  | haltField f => exact ⟨_, rfl, hs.ofSparing haltField_sparesCards f⟩
  | resumeField f => exact ⟨_, rfl, hs.ofSparing resumeField_sparesCards f⟩
  | addPost f => exact ⟨_, rfl, hs.ofSparing addPost_sparesCards f⟩
  | removePost f => exact ⟨_, rfl, hs.ofSparing removePost_sparesCards f⟩
  | readPosts f => exact ⟨_, rfl, hs.ofSparing readPosts_readsOnly.sparesCards f⟩
  | readLanes f => exact ⟨_, rfl, hs.ofSparing readLanes_readsOnly.sparesCards f⟩
  | setNotices f => exact ⟨_, rfl, hs.ofSparing setNotices_sparesCards f⟩
  | clearNotices f => exact ⟨_, rfl, hs.ofSparing clearNotices_sparesCards f⟩
  | readNotices f => exact ⟨_, rfl, hs.ofSparing readNotices_readsOnly.sparesCards f⟩
  | requestFrame n bytes =>
    refine ⟨_, rfl, hs.of_cardsAs (List.foldlRecOn (motive := s.CardsAs) bytes _ hsame fun t ht b _ => ?_)⟩
    exact ht.of_eq (State.cardBase_receiveByte t n b)
  | replyFrameComplete n =>
    refine ⟨_, rfl, ?_⟩
    split <;> exact hs
  | entry n => exact ⟨_, rfl, hs.ofDecision fun r => .decideEntry hs.1 n r⟩
  | privacy n => exact ⟨_, rfl, hs.ofDecision fun r => .decidePrivacy hs.1 n r⟩
  | charge n => exact ⟨_, rfl, hs.ofDecision fun r => .decideCharge hs.1 n r⟩
  | balance n => exact ⟨_, rfl, hs.ofDecision fun r => .decideBalance hs.1 n r⟩
  | authorise n => exact ⟨_, rfl, hs.ofDecision fun r => .decideAuthorise hs.1 n r⟩
  | complete n => exact ⟨_, rfl, hs.ofDecision fun r => .decideComplete hs.1 n r⟩
  | void n => exact ⟨_, rfl, hs.ofDecision fun r => .decideVoid hs.1 n r⟩
  | gate n => exact ⟨_, rfl, hs.ofDecision fun r => .decideGate hs.1 n r⟩
  | muster n => exact ⟨_, rfl, hs.ofDecision fun r => .decideMuster hs.1 n r⟩
  | alarmLevelChange n level => exact ⟨_, rfl, hs⟩
  | qualifiedAssertion n =>
    refine ⟨_, rfl, ?_⟩
    split
    · exact hs.of_cardsAs (hsame.assertInput n)
    · exact hs
  | qualifiedRelease n =>
    refine ⟨_, rfl, ?_⟩
    split <;> exact hs
  | secondArrival => exact ⟨_, rfl, hs.ofArrival _⟩
  | minuteTick => exact ⟨_, rfl, hs.ofArrival _⟩
  | holdLapse => exact ⟨_, rfl, hs.ofArrival _⟩

/-- Settles O56: a step is one command or event, or one period of the time base. -/
theorem cardsStaySound : Obligations.CardsStaySound := by
  intro s t hs hstep
  unfold step at hstep
  split at hstep
  · exact Host.Outcome.next.inj hstep ▸ hs.of_cardsAs (.tick hs.1)
  · rename_i c rest _
    obtain ⟨t', ht, hsound⟩ := exec_cardsSound (s := s.withPending rest) hs c
    exact Host.Outcome.next.inj (ht.symm.trans hstep) ▸ hsound

end Sys2Proof.Machine
end

section
/-! The tests that the field decisions share: service, the post of a terminal and the guest of a card (R33, R93, R119,
R142, R161). -/

namespace Sys2Proof.Machine

/-! ### Takes as the statements about `exec` say them -/

/-- A take of the head's kind whose decision is known. -/
theorem next_take {k : RequestKind} {n : Fin 4} {decide : Request → State → Decided} {s t : State} {r : Request}
    {rest : List Request} {x : Reason} {data : List Byte} (h : s.Heads n r rest) (hk : r.kind = k)
    (hd : decide r s = ⟨t, x, data⟩) :
    (.next (takeRequest k n decide s) : Host.Outcome State Fault Refusal) = .next (t.replying n r rest x data) := by
  rw [takeRequest_heads h hk, hd]

theorem State.Serves.serving {s : State} (h : s.Serves) : s.serving := by
  obtain ⟨hrun, hpart, hscrub⟩ := h
  exact ⟨hrun, hpart, by rw [State.scrubbing, hscrub]; rfl⟩

theorem presentationAt_encoded {serial issue : Nat} (hs : serial < 4294967296) (hi : issue < 256) (p : List Byte) :
    presentationAt (e32 serial ++ e8 issue ++ p) 0 = ⟨serial, issue⟩ := by
  have h := u8_after_e32 serial (e8 issue ++ p) 0
  simp [presentationAt, List.append_assoc, Nat.mod_eq_of_lt, *]

theorem presentationAt_encoded_nil {serial issue : Nat} (hs : serial < 4294967296) (hi : issue < 256) :
    presentationAt (e32 serial ++ e8 issue) 0 = ⟨serial, issue⟩ := by
  simpa using presentationAt_encoded hs hi []

/-! ### Posts -/

namespace State

variable {s : State} {n : Fin 4} {terminal : BitVec 10}

/-- The post found for a lane and terminal is of that lane and terminal. -/
theorem postAt_eq_some {e : Nat} {x : Post} (h : s.postAt n terminal = some (e, x)) :
    x = ⟨n, terminal, x.kind⟩ := by
  have := List.find?_some h
  simp only [Bool.and_eq_true, beq_iff_eq] at this
  obtain ⟨hn, ht⟩ := this
  cases x
  simp_all

theorem tillAt_eq_some {o : Fin 64} : s.tillAt n terminal = some o ↔ s.HasPost n terminal (.till o) := by
  unfold State.tillAt State.HasPost
  rcases hp : s.postAt n terminal with _ | ⟨e, lane, term, kind⟩
  · simp
  · have := postAt_eq_some hp
    cases kind <;> simp_all

theorem gateAt_eq_some {w : Fin 8} {d : Direction} :
    s.gateAt n terminal = some (w, d) ↔ s.HasPost n terminal (.gate w d) := by
  unfold State.gateAt State.HasPost
  rcases hp : s.postAt n terminal with _ | ⟨e, lane, term, kind⟩
  · simp
  · have := postAt_eq_some hp
    cases kind <;> simp_all

theorem readerAt_eq_some {x : Fin 16} : s.readerAt n terminal = some x ↔ s.HasPost n terminal (.musterReader x) := by
  unfold State.readerAt State.HasPost
  rcases hp : s.postAt n terminal with _ | ⟨e, lane, term, kind⟩
  · simp
  · have := postAt_eq_some hp
    cases kind <;> simp_all

theorem tillAt_eq_none (h : ∀ o : Fin 64, ¬ s.HasPost n terminal (.till o)) : s.tillAt n terminal = none :=
  Option.eq_none_iff_forall_ne_some.2 fun o ho => h o (tillAt_eq_some.1 ho)

theorem gateAt_eq_none (h : ∀ w d, ¬ s.HasPost n terminal (.gate w d)) : s.gateAt n terminal = none :=
  Option.eq_none_iff_forall_ne_some.2 fun x hx => h x.1 x.2 (gateAt_eq_some.1 hx)

theorem readerAt_eq_none (h : ∀ x : Fin 16, ¬ s.HasPost n terminal (.musterReader x)) :
    s.readerAt n terminal = none :=
  Option.eq_none_iff_forall_ne_some.2 fun x hx => h x (readerAt_eq_some.1 hx)

/-! ### The guest of a card -/

variable {card : Presentation}

theorem Presents.tallyGuest {k : Nat} {g : Guest} (h : s.Presents card k g) : tallyGuest card s = .ok (k, g) := by
  obtain ⟨⟨c, hc, hi⟩, hg, hp⟩ := h
  simp only [Machine.tallyGuest, hc, ok_bind, guestOf, hi, hg, test_of hp]
  rfl

/-- The reasons for which a presentation is refused are those of GuestStops. -/
theorem guestStops_of {refused : Reason → Prop}
    (h : ∀ x, tallyGuest card s = .error (x, []) → refused x) : s.GuestStops card refused := by
  refine ⟨fun x hx => h x (by simp only [tallyGuest, hx, error_bind]), fun c hc => ⟨fun hi => h _ ?_,
    fun k g hi hg hp => h _ ?_⟩⟩
  · simp only [tallyGuest, hc, ok_bind, guestOf]
    cases hh : c.holder with
    | guest k => exact absurd hh (hi k)
    | service r => rfl
    | officer => rfl
  · simp only [tallyGuest, hc, ok_bind, guestOf, hi, hg, test_not (not_not_intro hp), error_bind]

end State

end Sys2Proof.Machine
end

section
/-! The decision of a MUSTER request (R142, R143). -/

namespace Sys2Proof.Machine

section MusterTests

variable {s : State} {n : Fin 4} {r : Request}

theorem musterTests_denyPost (hs : s.Serves) (hp : ∀ x : Fin 16, ¬ s.HasPost n r.terminal (.musterReader x)) :
    musterTests n r s = .error (.denyPost, []) := by
  simp only [musterTests, test_of hs.serving, State.readerAt_eq_none hp, ok_bind, demand_none, error_bind]

variable {x : Fin 16} (hs : s.Serves) (hp : s.HasPost n r.terminal (.musterReader x))

include hs hp

theorem musterTests_denyMode (hm : s.mode.muster = false) : musterTests n r s = .error (.denyMode, []) := by
  have hm' : ¬ s.mode.muster = true := by simp [hm]
  simp only [musterTests, test_of hs.serving, State.readerAt_eq_some.2 hp, ok_bind, demand_some, test_not hm',
    error_bind]

/-- With service, a reader and a muster the tests turn on the guest. -/
theorem musterTests_eq (hm : s.mode.muster = true) : musterTests n r s
    = (do let y ← tallyGuest (presentationAt r.payload 0) s; return (x, y)) := by
  simp only [musterTests, test_of hs.serving, State.readerAt_eq_some.2 hp, ok_bind, demand_some, test_of hm]

end MusterTests

/-- A refused MUSTER changes nothing. -/
theorem decideMuster_refused {s : State} {n : Fin 4} {r : Request} {x : Reason} {data : List Byte}
    (h : musterTests n r s = .error (x, data)) : decideMuster n r s = ⟨s, x, data⟩ := by
  simp only [decideMuster, h, error_bind, decided]

@[simp] theorem Tally.move_epoch (t : Tally) (st : Fin 16) (p q : Presence) : (t.move st p q).epoch = t.epoch := by
  have hmap : ∀ (t : Tally) (p : Presence) (f : Nat → Nat), (t.mapTotal p f).epoch = t.epoch := fun t p f => by
    cases p <;> rfl
  unfold Tally.move
  dsimp only
  split_ifs <;> simp [Tally.mapAboardAt, hmap]

@[simp] theorem Tally.moveUnmustered_epoch (t : Tally) (st : Fin 16) (p q : Presence) :
    (t.moveUnmustered st p q).epoch = t.epoch := by
  unfold Tally.moveUnmustered
  dsimp only
  split_ifs <;> rfl

theorem State.movePresence_epoch (s : State) (k : Nat) (g : Guest) (q : Presence) :
    (s.movePresence k g q).tally.epoch = s.tally.epoch := by
  unfold State.movePresence
  dsimp only
  split <;> simp

@[simp] theorem State.correctPresence_epoch (s : State) (k : Nat) (g : Guest) :
    (s.correctPresence k g).tally.epoch = s.tally.epoch := by
  simp [State.correctPresence, State.movePresence_epoch]

theorem Presence.needsCorrection_eq {p : Presence} (h : p ≠ .departed) : p.needsCorrection = decide (p ≠ .aboard) := by
  cases p <;> simp_all [Presence.needsCorrection]

/-- The state in which a tap of a guest is decided: corrected, where the presence calls for it (R142). -/
theorem State.correctAtReader_eq {g : Guest} (s : State) (k : Nat) (hp : g.presence ≠ .departed) :
    s.correctAtReader k g = if decide (g.presence ≠ .aboard) then s.correctPresence k g else s := by
  rw [State.correctAtReader, Presence.needsCorrection_eq hp]

/-- Settles O43: the tests, then the tap of a guest mustered already and of one that is not. -/
theorem musterTaps : Obligations.MusterTaps := by
  constructor
  · intro s n r rest serial issue h hk hpay hs hi hserves refused
    have stop : ∀ x, musterTests n r s = .error (x, []) → refused x := fun x hx =>
      next_take (k := .muster) h hk (decideMuster_refused hx)
    refine ⟨fun hp => stop _ (musterTests_denyPost hserves hp), fun x hp =>
      ⟨fun hm => stop _ (musterTests_denyMode hserves hp hm), fun hm => State.guestStops_of fun y hy => stop y ?_⟩⟩
    rw [musterTests_eq hserves hp hm, hpay, presentationAt_encoded_nil hs hi, hy]
    rfl
  · intro s n r rest x serial issue k g h hk hpay hs hi hserves hp hm hpres home corrected c fewer struck
    have hgone : g.presence ≠ .departed := hpres.2.2
    have hdecide : decideMuster n r s = s.musterTap x k g := by
      simp only [decideMuster, musterTests_eq hserves hp hm, hpay, presentationAt_encoded_nil hs hi, hpres.tallyGuest]
      rfl
    have hc : s.correctAtReader k g = c := s.correctAtReader_eq k hgone
    have hcorrected : g.presence.needsCorrection = corrected := Presence.needsCorrection_eq hgone
    refine ⟨fun he => next_take (k := .muster) h hk ?_, fun he => next_take (k := .muster) h hk ?_⟩
    · rw [hdecide, State.musterTap, if_pos he, hc]
    · rw [hdecide, State.musterTap, if_neg he, hc, hcorrected]
      have hepoch : c.tally.epoch = s.tally.epoch := by
        simp only [c]
        split <;> simp
      have hguest : (if corrected = true then { g with presence := .aboard } else g) = { g with presence := .aboard } := by
        simp only [corrected]
        split
        · rfl
        · rename_i hab
          have hab : g.presence = .aboard := by simpa using hab
          cases g
          simp_all
      have hstruck : c.musterGuest k { g with presence := .aboard }
          = (struck.evaluateCompletion).evaluateWatches c.tally := by
        unfold State.musterGuest
        dsimp only
        rw [hepoch]
        rfl
      have hmark : eMark corrected = e8 corrected.toNat := by cases corrected <;> rfl
      rw [hguest]
      dsimp only
      rw [hstruck, hmark]

end Sys2Proof.Machine
end

section
/-! The decision of a GATE request (R119 to R122). -/

namespace Sys2Proof.Machine

/-- A refused GATE changes nothing. -/
theorem decideGate_refused {s : State} {n : Fin 4} {r : Request} {x : Reason} {data : List Byte}
    (h : gateTests n r s = .error (x, data)) : decideGate n r s = ⟨s, x, data⟩ := by
  simp only [decideGate, h, error_bind, decided]

/-- Tests 6 to 8 of R119 for a guest at a gate of gangway `w` and direction `d`. -/
def gateMove (s : State) (w : Fin 8) (d : Direction) (x : Nat × Guest) : Decision Passage := do
  test (guardPasses x.2.lastPass s.clock.voyage (cell s.tally.gangways w).guard) .repeated
  match intendedMove d x.2.presence with
  | none => .error (.denyPassback, eEnum presences x.2.presence)
  | some q =>
    if (cell s.tally.gangways w).state.passes q then return ⟨x.1, x.2, q⟩
    else .error (.denyClosed, eEnum presences x.2.presence)

section GateTests

variable {s : State} {n : Fin 4} {r : Request}

theorem gateTests_denyPost (hs : s.Serves) (hp : ∀ w d, ¬ s.HasPost n r.terminal (.gate w d)) :
    gateTests n r s = .error (.denyPost, []) := by
  simp only [gateTests, test_of hs.serving, State.gateAt_eq_none hp, ok_bind, demand_none, error_bind]

variable {w : Fin 8} {d : Direction} (hs : s.Serves) (hp : s.HasPost n r.terminal (.gate w d))

include hs hp

theorem gateTests_denyMode (hm : ¬ (s.mode.muster = false ∧ s.mode.lockdown = false)) :
    gateTests n r s = .error (.denyMode, []) := by
  simp only [gateTests, test_of hs.serving, State.gateAt_eq_some.2 hp, ok_bind, demand_some, test_not hm, error_bind]

/-- With service, a gate and neither mode the tests turn on the guest and then on the move. -/
theorem gateTests_eq (hm : s.mode.muster = false ∧ s.mode.lockdown = false) : gateTests n r s
    = (tallyGuest (presentationAt r.payload 0) s >>= gateMove s w d) := by
  simp only [gateTests, test_of hs.serving, State.gateAt_eq_some.2 hp, ok_bind, demand_some, test_of hm]
  rfl

end GateTests

/-! ### The move -/

section GateMove

variable {s : State} {w : Fin 8} {d : Direction} {k : Nat} {g : Guest}

theorem gateMove_repeated {l : Nat} (hl : l ∈ g.lastPass)
    (h : s.clock.voyage - l < (cell s.tally.gangways w).guard) : gateMove s w d (k, g) = .error (.repeated, []) := by
  have hnot : ¬ guardPasses g.lastPass s.clock.voyage (cell s.tally.gangways w).guard := fun hall =>
    Nat.not_lt.2 (hall l hl) h
  simp only [gateMove, test_not hnot, error_bind]

variable (hguard : ∀ l ∈ g.lastPass, (cell s.tally.gangways w).guard ≤ s.clock.voyage - l)

include hguard

theorem gateMove_passback (hmove : intendedMove d g.presence = none) :
    gateMove s w d (k, g) = .error (.denyPassback, eEnum presences g.presence) := by
  simp only [gateMove, test_of hguard, ok_bind, hmove]

variable {q : Presence} (hmove : intendedMove d g.presence = some q)

include hmove

theorem gateMove_closed (hpass : (cell s.tally.gangways w).state.passes q = false) :
    gateMove s w d (k, g) = .error (.denyClosed, eEnum presences g.presence) := by
  simp only [gateMove, test_of hguard, ok_bind, hmove, hpass]
  rfl

theorem gateMove_ok (hpass : (cell s.tally.gangways w).state.passes q = true) :
    gateMove s w d (k, g) = .ok ⟨k, g, q⟩ := by
  simp only [gateMove, test_of hguard, ok_bind, hmove, hpass]
  rfl

end GateMove

/-- Outside a muster a change of presence moves the record and the counts alone (steps 1 and 2 of R117). -/
theorem State.movePresence_calm {s : State} (hm : s.mode.muster = false) (k : Nat) (g : Guest) (q : Presence) :
    s.movePresence k g q = { s with
      roster := { s.roster with guests := Table.put s.roster.guests k { g with presence := q } }
      tally := s.tally.move g.station g.presence q } := by
  have hm' : ((s.putGuest k { g with presence := q }).withTally (s.tally.move g.station g.presence q)).mode.muster
      = false := hm
  simp only [State.movePresence, hm', Bool.false_eq_true, false_and, if_false]
  rfl

/-- The counts of a move between ABOARD and another presence that is not DEPARTED, as a gate makes it. -/
def Tally.passed (t : Tally) (st : Fin 16) (p : Presence) (aboardNow : Bool) : Tally :=
  { t with
    expected := if p = .expected then t.expected - 1 else t.expected
    aboard := if aboardNow then t.aboard + 1 else t.aboard - 1
    ashore := if aboardNow then (if p = .ashore then t.ashore - 1 else t.ashore) else t.ashore + 1
    aboardAt := putCell t.aboardAt st (if aboardNow then cell t.aboardAt st + 1 else cell t.aboardAt st - 1) }

theorem Tally.move_ashore (t : Tally) (st : Fin 16) : t.move st .aboard .ashore = t.passed st .aboard false := rfl

theorem Tally.move_aboard (t : Tally) (st : Fin 16) {p : Presence} (hp : p = .expected ∨ p = .ashore) :
    t.move st p .aboard = t.passed st p true := by
  rcases hp with rfl | rfl <;> rfl

/-- The state after a gate pass, before its watches are evaluated (steps 1 to 3 of R121). -/
def State.afterPass (s : State) (k : Nat) (g : Guest) (q : Presence) (t : Tally) : State :=
  let pending : Bool := g.watch && s.tally.groupEnable.getLsbD g.station.val
  { s with
    roster := { s.roster with
      guests := Table.put s.roster.guests k { g with presence := q, lastPass := some s.clock.voyage } }
    tally := { t with
      groupPending := if pending then s.tally.groupPending ||| BitVec.twoPow 16 g.station.val else s.tally.groupPending }
    notice := if pending then { s.notice with flags := s.notice.flags ||| 0x40#13 } else s.notice }

@[simp] theorem Tally.move_groupEnable (t : Tally) (st : Fin 16) (p q : Presence) :
    (t.move st p q).groupEnable = t.groupEnable := by cases p <;> cases q <;> rfl

@[simp] theorem Tally.move_groupPending (t : Tally) (st : Fin 16) (p q : Presence) :
    (t.move st p q).groupPending = t.groupPending := by cases p <;> cases q <;> rfl

theorem State.passGate_eq {s : State} (hm : s.mode.muster = false) (k : Nat) (g : Guest) (q : Presence) :
    s.passGate ⟨k, g, q⟩ = (s.afterPass k g q (s.tally.move g.station g.presence q)).evaluateWatches s.tally := by
  have hmark : (s.movePresence k { g with lastPass := some s.clock.voyage } q).markGroup g
      = s.afterPass k g q (s.tally.move g.station g.presence q) := by
    rw [State.movePresence_calm hm, State.markGroup, State.afterPass]
    have henable := Tally.move_groupEnable s.tally g.station g.presence q
    have hpend := Tally.move_groupPending s.tally g.station g.presence q
    generalize s.tally.move g.station g.presence q = t at henable hpend ⊢
    dsimp only
    rw [henable, ← hpend]
    by_cases hpending : g.watch = true ∧ s.tally.groupEnable.getLsbD g.station.val = true
    · simp only [hpending, and_self, Bool.and_self, if_true]
      rfl
    · have hoff : (g.watch && s.tally.groupEnable.getLsbD g.station.val) = false := by
        simpa using hpending
      simp only [hoff, if_neg hpending, Bool.false_eq_true, if_false]
      rw [← henable]
  rw [State.passGate]
  dsimp only
  rw [hmark]

theorem eEnum_presences (p : Presence) : eEnum presences p
    = e8 (match p with | .expected => 0 | .aboard => 1 | .ashore => 2 | .departed => 3) := by
  cases p <;> rfl

theorem intendedMove_out {d : Direction} (hd : d ≠ .inbound) : intendedMove d .aboard = some .ashore := by
  cases d
  case inbound => exact absurd rfl hd
  all_goals rfl

theorem intendedMove_in {d : Direction} {p : Presence} (hd : d ≠ .outbound) (hp : p = .expected ∨ p = .ashore) :
    intendedMove d p = some .aboard := by
  rcases hp with rfl | rfl <;> cases d
  case inl.outbound => exact absurd rfl hd
  case inr.outbound => exact absurd rfl hd
  all_goals rfl

theorem intendedMove_none {d : Direction} {p : Presence}
    (h : (d = .outbound ∧ p ≠ .aboard) ∨ (d = .inbound ∧ p = .aboard)) : intendedMove d p = none := by
  rcases h with ⟨rfl, hp⟩ | ⟨rfl, rfl⟩
  · cases p
    case aboard => exact absurd rfl hp
    all_goals rfl
  · rfl

theorem GangwayState.passes_ashore (x : GangwayState) : x.passes .ashore = decide (x = .opened) := by cases x <;> rfl

theorem GangwayState.passes_aboard (x : GangwayState) : x.passes .aboard = decide (x ≠ .closed) := by cases x <;> rfl

theorem decideGate_passed {s : State} {n : Fin 4} {r : Request} {x : Passage} (h : gateTests n r s = .ok x) :
    decideGate n r s = ⟨s.passGate x, .passed, eEnum presences x.presence ++ e16 x.guestIndex⟩ := by
  simp only [decideGate, h]
  rfl

/-- Settles O39: the tests, then the move that the direction and the presence give. -/
theorem gatePasses : Obligations.GatePasses := by
  constructor
  · intro s n r rest serial issue h hk hpay hs hi hserves refused calm
    have stop : ∀ x, gateTests n r s = .error (x, []) → refused x := fun x hx =>
      next_take (k := .gate) h hk (decideGate_refused hx)
    refine ⟨fun hp => stop _ (gateTests_denyPost hserves hp), fun w d hp =>
      ⟨fun hm => stop _ (gateTests_denyMode hserves hp hm), fun hm => State.guestStops_of fun y hy => stop y ?_⟩⟩
    rw [gateTests_eq hserves hp hm, hpay, presentationAt_encoded_nil hs hi, hy, error_bind]
  · intro s n r rest w d serial issue k g h hk hpay hs hi hserves hp hm hl hpres code gangway passed
    have hgone : g.presence ≠ .departed := hpres.2.2
    have htests : gateTests n r s = gateMove s w d (k, g) := by
      rw [gateTests_eq hserves hp ⟨hm, hl⟩, hpay, presentationAt_encoded_nil hs hi, hpres.tallyGuest, ok_bind]
    have stop : ∀ x data, gateMove s w d (k, g) = .error (x, data) →
        exec (.gate n) s = .next (s.replying n r rest x data) := fun x data hx =>
      next_take (k := .gate) h hk (decideGate_refused (htests.trans hx))
    have pass : ∀ q, gateMove s w d (k, g) = .ok ⟨k, g, q⟩ →
        exec (.gate n) s = .next ((s.passGate ⟨k, g, q⟩).replying n r rest .passed (eEnum presences q ++ e16 k)) :=
      fun q hq => next_take (k := .gate) h hk (decideGate_passed (htests.trans hq))
    have hcode : ∀ p, eEnum presences p = code p := eEnum_presences
    simp only [hcode] at pass
    have closed : ∀ q, intendedMove d g.presence = some q → (cell s.tally.gangways w).state.passes q = false →
        (∀ l ∈ g.lastPass, (cell s.tally.gangways w).guard ≤ s.clock.voyage - l) →
        exec (.gate n) s = .next (s.replying n r rest .denyClosed (code g.presence)) := fun q hmove hpass hguard => by
      rw [← hcode]
      exact stop _ _ (gateMove_closed hguard hmove hpass)
    refine ⟨fun l hmem hlt => stop _ _ (gateMove_repeated hmem hlt), fun hguard => ⟨fun hback => ?_,
      fun hab hd => ?_, fun hab hd => ?_⟩⟩
    · rw [← hcode]
      exact stop _ _ (gateMove_passback hguard (intendedMove_none hback))
    · have hmove : intendedMove d g.presence = some .ashore := by rw [hab]; exact intendedMove_out hd
      refine ⟨fun hopen => ?_, fun hshut => closed _ hmove (by simpa [GangwayState.passes_ashore] using hshut) hguard⟩
      have heq : s.passGate ⟨k, g, .ashore⟩ = passed .ashore := by
        rw [s.passGate_eq hm, hab, Tally.move_ashore]
        simp only [passed, hab, reduceCtorEq, if_false]
        rfl
      rw [pass _ (gateMove_ok hguard hmove (by simpa [GangwayState.passes_ashore] using hopen)), heq]
    · have hcases : g.presence = .expected ∨ g.presence = .ashore := by cases hq : g.presence <;> simp_all
      have hmove : intendedMove d g.presence = some .aboard := intendedMove_in hd hcases
      refine ⟨fun hopen => ?_, fun hshut => closed _ hmove (by simpa [GangwayState.passes_aboard] using hshut) hguard⟩
      have heq : s.passGate ⟨k, g, .aboard⟩ = passed .aboard := by
        rw [s.passGate_eq hm, Tally.move_aboard _ _ hcases]
        rfl
      rw [pass _ (gateMove_ok hguard hmove (by simpa [GangwayState.passes_aboard] using hopen)), heq]

end Sys2Proof.Machine
end

section
/-! The tests of a till's requests and the decisions of CHARGE and BALANCE (R87 to R95). -/

namespace Sys2Proof.Machine

/-! ### The tests that till requests share -/

section TillTests

variable {s : State} {n : Fin 4} {r : Request} (hs : s.Serves)

include hs

theorem tillTests_ok {o : Fin 64} (hp : s.HasPost n r.terminal (.till o)) : tillTests n r s = .ok o := by
  simp only [tillTests, test_of hs.serving, State.tillAt_eq_some.2 hp, ok_bind, demand_some]

theorem tillTests_denyPost (hp : ∀ o : Fin 64, ¬ s.HasPost n r.terminal (.till o)) :
    tillTests n r s = .error (.denyPost, []) := by
  simp only [tillTests, test_of hs.serving, State.tillAt_eq_none hp, ok_bind, demand_none]

end TillTests

section FolioTest

variable {s : State} {k : Nat} {g : Guest}

theorem folioTest_noFolio (h : g.folio = none) : folioTest (k, g) s = .error (.noFolio, []) := by
  simp only [folioTest, h, demand_none, error_bind]

variable {a : Nat} (ha : g.folio = some a)

include ha

theorem folioTest_denyFolio (h : ∀ x, s.folioAt a = some x → x.state ≠ .opened) :
    folioTest (k, g) s = .error (.denyFolio, []) := by
  cases hx : s.folioAt a with
  | none => simp only [folioTest, ha, demand_some, ok_bind, hx, demand_none, error_bind]
  | some x => simp only [folioTest, ha, demand_some, ok_bind, hx, test_not (h x hx), error_bind]

theorem folioTest_ok {x : Folio} (hx : s.folioAt a = some x) (ho : x.state = .opened) :
    folioTest (k, g) s = .ok ⟨k, g, a, x⟩ := by
  simp only [folioTest, ha, demand_some, ok_bind, hx, test_of ho]
  rfl

end FolioTest

/-- Tests 8 to 11 of R93 for a guest at a till of outlet `o`. -/
def saleRest (s : State) (o : Fin 64) (a : ChargeFields) (x : Nat × Guest) : Decision Sale := do
  test (x.2.mayCharge = true) .denyChargePrivilege
  let account ← folioTest x s
  let charge ← demand (s.computeCharge a.amount a.currency (s.outletAt o.val)) .badAmount
  test (a.alcohol = true → account.guest.band = .adult ∧ (s.outletAt o.val).alcohol = true) .denyAge
  return ⟨o, account, charge⟩

section SaleRest

variable {s : State} {o : Fin 64} {a : ChargeFields} {k : Nat} {g : Guest}

theorem saleRest_denyPrivilege (h : g.mayCharge = false) :
    saleRest s o a (k, g) = .error (.denyChargePrivilege, []) := by
  have h' : ¬ g.mayCharge = true := by simp [h]
  simp only [saleRest, test_not h', error_bind]

variable (hmay : g.mayCharge = true)

include hmay

theorem saleRest_folio {x : Reason} (h : folioTest (k, g) s = .error (x, [])) :
    saleRest s o a (k, g) = .error (x, []) := by
  simp only [saleRest, test_of hmay, ok_bind, h, error_bind]

variable {x : Account} (hx : folioTest (k, g) s = .ok x)

include hx

theorem saleRest_badAmount (h : s.computeCharge a.amount a.currency (s.outletAt o.val) = none) :
    saleRest s o a (k, g) = .error (.badAmount, []) := by
  simp only [saleRest, test_of hmay, ok_bind, hx, h, demand_none, error_bind]

variable {c : Charge} (hc : s.computeCharge a.amount a.currency (s.outletAt o.val) = some c)

include hc

theorem saleRest_denyAge (h : ¬ (a.alcohol = true → x.guest.band = .adult ∧ (s.outletAt o.val).alcohol = true)) :
    saleRest s o a (k, g) = .error (.denyAge, []) := by
  simp only [saleRest, test_of hmay, ok_bind, hx, hc, demand_some, test_not h, error_bind]

theorem saleRest_ok (h : a.alcohol = true → x.guest.band = .adult ∧ (s.outletAt o.val).alcohol = true) :
    saleRest s o a (k, g) = .ok ⟨o, x, c⟩ := by
  simp only [saleRest, test_of hmay, ok_bind, hx, hc, demand_some, test_of h]
  rfl

end SaleRest

section SaleTests

variable {s : State} {n : Fin 4} {r : Request} {a : ChargeFields} (hs : s.Serves)

include hs

theorem saleTests_denyPost (hp : ∀ o : Fin 64, ¬ s.HasPost n r.terminal (.till o)) :
    saleTests n r a s = .error (.denyPost, []) := by
  simp only [saleTests, tillTests_denyPost hs hp, error_bind]

variable {o : Fin 64} (hp : s.HasPost n r.terminal (.till o))

include hp

theorem saleTests_denyOutletClosed (ho : (s.outletAt o.val).isOpen = false) :
    saleTests n r a s = .error (.denyOutletClosed, []) := by
  have ho' : ¬ (s.outletAt o.val).isOpen = true := by simp [ho]
  simp only [saleTests, tillTests_ok hs hp, ok_bind, test_not ho', error_bind]

variable (ho : (s.outletAt o.val).isOpen = true)

include ho

theorem saleTests_denyMode (hm : ¬ s.modesClear) : saleTests n r a s = .error (.denyMode, []) := by
  simp only [saleTests, tillTests_ok hs hp, ok_bind, test_of ho, test_not hm, error_bind]

/-- With service, an open outlet's till and no mode the tests turn on the guest and then on tests 8 to 11. -/
theorem saleTests_eq (hm : s.modesClear) : saleTests n r a s = (tallyGuest a.card s >>= saleRest s o a) := by
  simp only [saleTests, tillTests_ok hs hp, ok_bind, test_of ho, test_of hm]
  rfl

end SaleTests

namespace State

variable {s : State} {n : Fin 4} {r : Request} {card : Presentation} {amount currency category : Nat}

/-- The reasons with which tests 2 to 11 refuse are those of SaleStops. -/
theorem saleStops_of {refused : Reason → Prop} (hs : s.Serves)
    (h : ∀ x, saleTests n r ⟨card, amount, currency, category ≠ 0⟩ s = .error (x, []) → refused x) :
    s.SaleStops n r.terminal card amount currency category refused := by
  refine ⟨fun hp => h _ (saleTests_denyPost hs hp), fun o hp => ⟨fun ho => h _ (saleTests_denyOutletClosed hs hp ho),
    fun ho hm => h _ (saleTests_denyMode hs hp ho hm), fun ho hm => ?_⟩⟩
  rw [saleTests_eq hs hp ho hm] at h
  refine ⟨guestStops_of fun y hy => h y (by rw [hy, error_bind]), fun k g hg => ?_⟩
  rw [hg.tallyGuest, ok_bind] at h
  refine ⟨fun hmay => h _ (saleRest_denyPrivilege hmay), fun hmay =>
    ⟨fun hf => h _ (saleRest_folio hmay (folioTest_noFolio hf)), fun a ha =>
      ⟨fun hx => h _ (saleRest_folio hmay (folioTest_denyFolio ha hx)), fun ⟨x, hx, ho⟩ => ?_⟩⟩⟩
  have hfolio := folioTest_ok (k := k) ha hx ho
  refine ⟨fun hc => h _ (saleRest_badAmount hmay hfolio hc), fun hc hcat hage => ?_⟩
  obtain ⟨c, hc⟩ := Option.ne_none_iff_exists'.1 hc
  exact h _ (saleRest_denyAge hmay hfolio hc (by simpa [hcat] using hage))

/-- Where a till sells, tests 1 to 11 find the account and the charge. -/
theorem Sells.saleTests {o : Fin 64} {k a : Nat} {g : Guest} {x : Folio} {c : Charge}
    (h : s.Sells n r.terminal o card amount currency category k g a x c) :
    saleTests n r ⟨card, amount, currency, category ≠ 0⟩ s = .ok ⟨o, ⟨k, g, a, x⟩, c⟩ := by
  obtain ⟨hs, hp, ho, hmuster, hlock, hcharging, hg, hmay, ha, hx, hopen, hc, hage⟩ := h
  rw [saleTests_eq hs hp ho ⟨hmuster, hlock, hcharging⟩, hg.tallyGuest, ok_bind,
    saleRest_ok hmay (folioTest_ok ha hx hopen) hc]
  intro hcat
  exact hage.resolve_left (by simpa using hcat)

end State

theorem readCharge_encoded {serial issue amount currency category : Nat} (hs : serial < 4294967296) (hi : issue < 256)
    (ha : amount < 4294967296) (hc : currency < 256) (hcat : category < 256) :
    readCharge (e32 serial ++ e8 issue ++ e32 amount ++ e8 currency ++ e8 category)
      = ⟨⟨serial, issue⟩, amount, currency, category ≠ 0⟩ := by
  have hcard := presentationAt_encoded hs hi (e32 amount ++ e8 currency ++ e8 category)
  simp only [List.append_assoc] at hcard ⊢
  have hamount := u32_after_e32 serial (e8 issue ++ (e32 amount ++ (e8 currency ++ e8 category))) 1
  have hcurrency := u8_after_e32 serial (e8 issue ++ (e32 amount ++ (e8 currency ++ e8 category))) 5
  have hcategory := u8_after_e32 serial (e8 issue ++ (e32 amount ++ (e8 currency ++ e8 category))) 6
  have hcurrency' := u8_after_e32 amount (e8 currency ++ e8 category) 0
  have hcategory' := u8_after_e32 amount (e8 currency ++ e8 category) 1
  simp_all [readCharge, Nat.mod_eq_of_lt]

/-! ### Postings and the remaining allowance (R90 to R92) -/

theorem remainingAllowance_eq (f : Folio) (g : Guest) (day : Nat) :
    remainingAllowance f g day = match g.dayLimit with
      | none => f.available.toNat
      | some l => (min f.available ((l : Int) - (g.effectiveSpent day : Nat) - g.held)).toNat := by
  unfold remainingAllowance Guest.dayAllowance
  cases g.dayLimit with
  | none => rfl
  | some l =>
    simp only [Option.map_some]
    omega

theorem State.postTotal_eq {s : State} {a k : Nat} {x : Folio} {g : Guest} (hx : s.folioAt a = some x)
    (hg : s.guestAt k = some g) (total : Nat) : s.postTotal a k total = { s with
      folio := { s.folio with folios := Table.put s.folio.folios a { x with balance := x.balance + total } }
      roster := { s.roster with guests := Table.put s.roster.guests k (g.spend s.clock.day total) } } := by
  have hg' : (s.putFolio a { x with balance := x.balance + total }).guestAt k = some g := hg
  simp only [State.postTotal, hx, hg']
  rfl

/-- The remaining allowance after a posting is that of the folio and the guest posted to. -/
theorem State.remaining_postTotal {s : State} {a k : Nat} {x : Folio} {g : Guest} (hx : s.folioAt a = some x)
    (hg : s.guestAt k = some g) (total : Nat) : (s.postTotal a k total).remaining ⟨k, g, a, x⟩
      = remainingAllowance { x with balance := x.balance + total } (g.spend s.clock.day total) s.clock.day := by
  rw [State.postTotal_eq hx hg]
  simp only [State.remaining, State.folioAt, State.guestAt, Table.find_put_self]

/-! ### The decisions -/

section Decide

variable {s : State} {n : Fin 4} {r : Request}

theorem decideCharge_refused {x : Reason} {data : List Byte} (h : chargeTests n r s = .error (x, data)) :
    decideCharge n r s = ⟨s, x, data⟩ := by
  simp only [decideCharge, h, error_bind, decided]

theorem decideBalance_refused {x : Reason} {data : List Byte} (h : balanceTests n r s = .error (x, data)) :
    decideBalance n r s = ⟨s, x, data⟩ := by
  simp only [decideBalance, h, error_bind, decided]

section Sold

variable {o : Fin 64} {k a : Nat} {g : Guest} {x : Folio} {c : Charge}
  (h : saleTests n r (readCharge r.payload) s = .ok ⟨o, ⟨k, g, a, x⟩, c⟩)

include h

theorem chargeTests_denyDayLimit (hl : ¬ g.dayCheck s.clock.day c.total) :
    chargeTests n r s = .error (.denyDayLimit, []) := by
  simp only [chargeTests, h, ok_bind, limitTests, test_not hl, error_bind]

variable (hl : g.dayCheck s.clock.day c.total)

include hl

theorem chargeTests_denyCredit (hc : ¬ x.creditCheck c.total) : chargeTests n r s = .error (.denyCredit, []) := by
  simp only [chargeTests, h, ok_bind, limitTests, test_of hl, test_not hc, error_bind]

theorem decideCharge_approved (hx : s.folioAt a = some x) (hg : s.guestAt k = some g) (hc : x.creditCheck c.total) :
    decideCharge n r s = ⟨s.postTotal a k c.total, .approved, e32 c.total ++ e32 c.converted ++ e32 c.gratuity
      ++ e32 (remainingAllowance { x with balance := x.balance + c.total } (g.spend s.clock.day c.total) s.clock.day)⟩
      := by
  rw [← State.remaining_postTotal hx hg]
  simp only [decideCharge, chargeTests, h, ok_bind, limitTests, test_of hl, test_of hc]
  rfl

end Sold

section Balance

variable (hs : s.Serves) {o : Fin 64}

include hs

/-- With service and a till the tests turn on the guest and then on the guest's folio. -/
theorem balanceTests_eq (hp : s.HasPost n r.terminal (.till o)) : balanceTests n r s
    = (tallyGuest (presentationAt r.payload 0) s >>= (folioTest · s)) := by
  simp only [balanceTests, tillTests_ok hs hp, ok_bind]
  rfl

theorem balanceTests_denyPost (hp : ∀ o : Fin 64, ¬ s.HasPost n r.terminal (.till o)) :
    balanceTests n r s = .error (.denyPost, []) := by
  simp only [balanceTests, tillTests_denyPost hs hp, error_bind]

end Balance

theorem decideBalance_allowance {x : Account} (h : balanceTests n r s = .ok x) : decideBalance n r s = ⟨s, .allowance,
    e32 (remainingAllowance x.folio x.guest s.clock.day) ++ eInt x.folio.available
      ++ e32 (x.guest.effectiveSpent s.clock.day)⟩ := by
  simp only [decideBalance, h]
  rfl

end Decide

/-- Settles O34: the tests in order, then the posting within both limits, or the allowance. -/
theorem chargePostsTotal : Obligations.ChargePostsTotal := by
  constructor
  · intro s n r rest serial issue h hserves hs hi
    refine ⟨fun amount currency category hk hpay ha hc hcat => State.saleStops_of hserves fun x hx =>
      next_take (k := .charge) h hk (decideCharge_refused ?_), fun hk hpay => ?_⟩
    · rw [chargeTests, hpay, readCharge_encoded hs hi ha hc hcat, hx, error_bind]
    · intro refused
      have stop : ∀ x, balanceTests n r s = .error (x, []) → refused x := fun x hx =>
        next_take (k := .balance) h hk (decideBalance_refused hx)
      refine ⟨fun hp => stop _ (balanceTests_denyPost hserves hp), fun o hp => ?_⟩
      rw [balanceTests_eq hserves hp, hpay, presentationAt_encoded_nil hs hi] at stop
      refine ⟨State.guestStops_of fun y hy => stop y (by rw [hy, error_bind]), fun k g hg => ?_⟩
      rw [hg.tallyGuest, ok_bind] at stop
      exact ⟨fun hf => stop _ (folioTest_noFolio hf), fun a ha hx => stop _ (folioTest_denyFolio ha hx)⟩
  · intro s n r rest o serial issue k g a x h hs hi day spent allowance
    have hallow : ∀ (y : Folio) (g' : Guest), g'.dayLimit = g.dayLimit → g'.held = g.held →
        e32 (remainingAllowance y g' day) = allowance y.available (g'.effectiveSpent day) := fun y g' hd hh => by
      cases hl : g.dayLimit <;> simp only [allowance, remainingAllowance_eq, hd, hh, hl]
    constructor
    · intro amount currency category c hk hpay ha hc hcat hsells
      have hsale : saleTests n r (readCharge r.payload) s = .ok ⟨o, ⟨k, g, a, x⟩, c⟩ := by
        rw [hpay, readCharge_encoded hs hi ha hc hcat]
        exact hsells.saleTests
      obtain ⟨-, -, -, -, -, -, ⟨-, hg, -⟩, -, -, hx, -⟩ := hsells
      refine ⟨fun hl => ⟨fun hcredit => ?_, fun hover => ?_⟩, fun l hmem hlt => ?_⟩
      · have hspend := hallow { x with balance := x.balance + c.total } (g.spend day c.total) rfl rfl
        have hspent : (g.spend day c.total).effectiveSpent day = min (spent + c.total) 12000000 := by
          simp [Guest.effectiveSpent, Guest.spend, spent]
        refine next_take (k := .charge) h hk ((decideCharge_approved hsale hl hx hg hcredit).trans ?_)
        rw [hspend, hspent, State.postTotal_eq hx hg]
        rfl
      · have hcredit : ¬ x.creditCheck c.total := Int.not_le.2 hover
        exact next_take (k := .charge) h hk (decideCharge_refused (chargeTests_denyCredit hsale hl hcredit))
      · have hl : ¬ g.dayCheck s.clock.day c.total := fun hall => absurd (hall l hmem) (Nat.not_le.2 hlt)
        exact next_take (k := .charge) h hk (decideCharge_refused (chargeTests_denyDayLimit hsale hl))
    · intro hk hpay hserves hp hg ha hx ho
      have htests : balanceTests n r s = .ok ⟨k, g, a, x⟩ := by
        rw [balanceTests_eq hserves hp, hpay, presentationAt_encoded_nil hs hi, hg.tallyGuest, ok_bind]
        exact folioTest_ok ha hx ho
      refine next_take (k := .balance) h hk ((decideBalance_allowance htests).trans ?_)
      rw [hallow x g rfl rfl]
      rfl

end Sys2Proof.Machine
end

section
/-! The evaluations at the end of a step, said exactly (R126, R141). -/

namespace Sys2Proof.Machine

/-- Watch `n` fires at the end of a step from the tallies `b` to `t` (R126). -/
def Tally.fires (b t : Tally) (n : Fin 2) : Bool :=
  (cell b.watches n).armed && b.sourceCount (cell b.watches n) != t.sourceCount (cell b.watches n)
    && t.sourceCount (cell b.watches n) == (cell b.watches n).value

/-- The notice flag that a watch raises when it fires. -/
def watchFlag (n : Fin 2) : BitVec 13 := if n = 0 then 0x80#13 else 0x100#13

namespace State

variable {s : State} {b : Tally} {n : Fin 2}

/-- An evaluation of one watch, whose record is that of the step's start. -/
theorem evaluateWatch_eq (h : cell s.tally.watches n = cell b.watches n) :
    s.evaluateWatch b n = if b.fires s.tally n
      then { s with
        tally := { s.tally with watches := putCell s.tally.watches n { cell b.watches n with armed := false } }
        notice := { s.notice with flags := s.notice.flags ||| watchFlag n } }
      else s := by
  unfold evaluateWatch
  dsimp only
  rw [h]
  have hfires : ((cell b.watches n).armed = true ∧ b.sourceCount (cell b.watches n) ≠ s.tally.sourceCount (cell b.watches n)
      ∧ s.tally.sourceCount (cell b.watches n) = (cell b.watches n).value) ↔ b.fires s.tally n = true := by
    simp [Tally.fires, and_assoc]
  by_cases hf : b.fires s.tally n = true
  · rw [if_pos (hfires.2 hf), if_pos hf]
    fin_cases n <;> rfl
  · rw [if_neg (fun hc => hf (hfires.1 hc)), if_neg hf]

@[simp] theorem sourceCount_evaluateWatch (w : Watch) :
    (s.evaluateWatch b n).tally.sourceCount w = s.tally.sourceCount w := by
  unfold Tally.sourceCount
  cases w.source <;> simp

@[simp] theorem sourceCount_evaluateWatches (w : Watch) :
    (s.evaluateWatches b).tally.sourceCount w = s.tally.sourceCount w := by
  simp [evaluateWatches]

@[simp] theorem fires_evaluateWatch (m : Fin 2) : b.fires (s.evaluateWatch b n).tally m = b.fires s.tally m := by
  simp [Tally.fires]

@[simp] theorem fires_evaluateWatches (m : Fin 2) : b.fires (s.evaluateWatches b).tally m = b.fires s.tally m := by
  simp [Tally.fires]

theorem evaluateWatch_watch_self (h : cell s.tally.watches n = cell b.watches n) :
    cell (s.evaluateWatch b n).tally.watches n
      = if b.fires s.tally n then { cell b.watches n with armed := false } else cell b.watches n := by
  rw [evaluateWatch_eq h]
  split
  · exact cell_putCell_self _ _ _
  · exact h

theorem evaluateWatch_watch_ne {m : Fin 2} (h : n ≠ m) :
    cell (s.evaluateWatch b n).tally.watches m = cell s.tally.watches m := by
  unfold evaluateWatch
  dsimp only
  split
  · exact cell_putCell_ne _ h _
  · rfl

/-- A step that leaves the watches as they were disarms exactly those that fire. -/
theorem evaluateWatches_watch (h : s.tally.watches = b.watches) (m : Fin 2) :
    cell (s.evaluateWatches b).tally.watches m
      = if b.fires s.tally m then { cell b.watches m with armed := false } else cell b.watches m := by
  have h0 : cell s.tally.watches 0 = cell b.watches 0 := by rw [h]
  have h1 : cell (s.evaluateWatch b 0).tally.watches 1 = cell b.watches 1 := by
    rw [evaluateWatch_watch_ne (by decide), h]
  unfold evaluateWatches
  match m with
  | 0 => rw [evaluateWatch_watch_ne (by decide), evaluateWatch_watch_self h0]
  | 1 => rw [evaluateWatch_watch_self h1, fires_evaluateWatch]

/-- A step that leaves the watches as they were raises the notices of those that fire. -/
theorem evaluateWatches_notice (h : s.tally.watches = b.watches) : (s.evaluateWatches b).notice = { s.notice with
    flags := s.notice.flags ||| (if b.fires s.tally 0 then 0x80#13 else 0)
      ||| (if b.fires s.tally 1 then 0x100#13 else 0) } := by
  have h0 : cell s.tally.watches 0 = cell b.watches 0 := by rw [h]
  have h1 : cell (s.evaluateWatch b 0).tally.watches 1 = cell b.watches 1 := by
    rw [evaluateWatch_watch_ne (by decide), h]
  have hone : ∀ {t : State} {m : Fin 2}, cell t.tally.watches m = cell b.watches m → (t.evaluateWatch b m).notice
      = { t.notice with flags := t.notice.flags ||| (if b.fires t.tally m then watchFlag m else 0) } := fun hm => by
    rw [evaluateWatch_eq hm]
    split
    · rfl
    · simp
  unfold evaluateWatches
  rw [hone h1, hone h0, fires_evaluateWatch]
  rfl

/-- An evaluation of a completion state that follows its condition changes nothing. -/
theorem evaluateCompletion_self (h : s.tally.complete = s.tally.completionHolds) : s.evaluateCompletion = s := by
  unfold evaluateCompletion
  rw [← h]
  cases s.tally.complete <;> rfl

end State

end Sys2Proof.Machine
end

section
/-! DEPART_GUEST (R31, R48). -/

namespace Sys2Proof.Machine

/-! ### What the index of a guest names -/

namespace State

variable {s : State} {k : Nat}

theorem namedGuest_eq_some {g : Guest} (hk : k < s.store.caps.guests) (hg : s.guestAt k = some g) :
    s.namedGuest k = some g := (if_pos hk).trans hg

theorem namedGuest_eq_none (h : s.store.caps.guests ≤ k ∨ s.guestAt k = none) : s.namedGuest k = none := by
  unfold namedGuest
  split
  · exact h.resolve_left (by omega)
  · rfl

end State

theorem u16_e16_of_lt {k : Nat} (hk : k < 65536) : u16 (e16 k) 0 = k := by rw [u16_e16_nil, Nat.mod_eq_of_lt hk]

/-! ### The form of what an evaluation leaves -/

namespace State

/-- A state with its completion state, watches and notices replaced: what an evaluation can change. -/
def evaluated (s : State) (c : Bool) (w : Vector Watch 2) (n : NoticeUnit) : State :=
  { s with tally := { s.tally with complete := c, watches := w }, notice := n }

theorem evaluateCompletion_form (s : State) : ∃ c n, s.evaluateCompletion = s.evaluated c s.tally.watches n := by
  unfold evaluateCompletion
  split
  · exact ⟨_, _, rfl⟩
  · exact ⟨_, _, rfl⟩
  · exact ⟨s.tally.complete, s.notice, rfl⟩
  · exact ⟨s.tally.complete, s.notice, rfl⟩

theorem evaluateWatch_form (s : State) (b : Tally) (m : Fin 2) :
    ∃ w n, s.evaluateWatch b m = s.evaluated s.tally.complete w n := by
  unfold evaluateWatch
  dsimp only
  split
  · exact ⟨_, _, rfl⟩
  · exact ⟨s.tally.watches, s.notice, rfl⟩

theorem evaluateWatches_form (s : State) (b : Tally) :
    ∃ w n, s.evaluateWatches b = s.evaluated s.tally.complete w n := by
  obtain ⟨w, n, h⟩ := s.evaluateWatch_form b 0
  obtain ⟨w', n', h'⟩ := (s.evaluateWatch b 0).evaluateWatch_form b 1
  refine ⟨w', n', ?_⟩
  rw [evaluateWatches, h', h]
  rfl

end State

/-! ### A departure -/

/-- A guest who is not ABOARD becomes DEPARTED: the record and the totals (steps 1 to 3 of R117). -/
def State.departing (s : State) (k : Nat) (g : Guest) : State :=
  { s with
    roster := { s.roster with guests := Table.put s.roster.guests k { g with presence := .departed } }
    tally := { s.tally with
      departed := s.tally.departed + 1
      expected := if g.presence = .expected then s.tally.expected - 1 else s.tally.expected
      ashore := if g.presence = .ashore then s.tally.ashore - 1 else s.tally.ashore } }

section Departure

variable {s : State} {k : Nat} {g : Guest} (hp : g.presence = .expected ∨ g.presence = .ashore)

include hp

theorem Tally.move_departed (t : Tally) : t.move g.station g.presence .departed = { t with
    departed := t.departed + 1
    expected := if g.presence = .expected then t.expected - 1 else t.expected
    ashore := if g.presence = .ashore then t.ashore - 1 else t.ashore } := by
  rcases hp with h | h <;> rw [h] <;> rfl

theorem Tally.moveUnmustered_departed (t : Tally) : t.moveUnmustered g.station g.presence .departed = t := by
  rcases hp with h | h <;> rw [h] <;> rfl

/-- A departure moves the record and the totals, and evaluates completion for a guest not yet struck off. -/
theorem State.movePresence_departed : s.movePresence k g .departed =
    if s.mode.muster = true ∧ g.epoch ≠ s.tally.epoch then (s.departing k g).evaluateCompletion
    else s.departing k g := by
  have hu : (s.putGuest k { g with presence := .departed }).withTally (s.tally.move g.station g.presence .departed)
      = s.departing k g := by
    rw [Tally.move_departed hp]
    rfl
  have hepoch : (s.departing k g).tally.epoch = s.tally.epoch := rfl
  have hmode : (s.departing k g).mode = s.mode := rfl
  have hkeep : (s.departing k g).withTally (s.departing k g).tally = s.departing k g := rfl
  unfold movePresence
  dsimp only
  rw [hu, hepoch, hmode, Tally.moveUnmustered_departed hp, hkeep]

/-- A departure evaluates completion to what it was. -/
theorem State.movePresence_departed_of_exact (h : s.CompletionExact) : s.movePresence k g .departed = s.departing k g := by
  rw [movePresence_departed hp]
  split
  · rename_i hm
    refine evaluateCompletion_self (h.trans ?_)
    rw [hm.1]
    rfl
  · rfl

/-- What stands after a departure and the evaluations that follow: only the completion state, the watches and the
notices depend on the evaluations. -/
theorem State.depart_form : ∃ c w n, (s.movePresence k g .departed).evaluateWatches s.tally
    = (s.departing k g).evaluated c w n := by
  have hmove : ∃ c n, s.movePresence k g .departed = (s.departing k g).evaluated c s.tally.watches n := by
    rw [movePresence_departed hp]
    split
    · exact evaluateCompletion_form _
    · exact ⟨s.tally.complete, s.notice, rfl⟩
  obtain ⟨c, n, hmove⟩ := hmove
  obtain ⟨w, n', hw⟩ := (s.movePresence k g .departed).evaluateWatches_form s.tally
  refine ⟨c, w, n', ?_⟩
  rw [hw, hmove]
  rfl

end Departure

/-! ### The cards of the guest -/

theorem State.FindsCards.of_eq {s t : State} (h : s.FindsCards) (hcards : t.cards = s.cards) (hstore : t.store = s.store) :
    t.FindsCards := by
  intro j c hj
  rw [State.cardSlotAt, hcards] at hj
  rw [State.lookupCard, hcards, hstore]
  exact h j c hj

theorem State.cardSlotAt_of_cardAt {s : State} {j : Nat} {c : Card} (h : s.cardAt j = some c) :
    s.cardSlotAt j = some (.inUse c) := by
  obtain ⟨x, hx, hc⟩ := Option.bind_eq_some_iff.1 h
  cases x with
  | retired => cases hc
  | inUse d => rw [hx, Option.some.inj hc]

/-- A slot without a card is FREE or RETIRED. -/
theorem State.cardSlotAt_of_cardAt_none {s : State} {j : Nat} (h : s.cardAt j = none) :
    s.cardSlotAt j = none ∨ s.cardSlotAt j = some .retired := by
  cases hx : s.cardSlotAt j with
  | none => exact .inl rfl
  | some x =>
    cases x with
    | retired => exact .inr rfl
    | inUse c => simp [State.cardAt, hx, CardSlot.card] at h

/-- A change that keeps RETIRED slots leaves every slot without a card. -/
theorem State.cardSlotAt_mapSlots_of_cardAt_none {s : State} {f : CardSlot → CardSlot} (hf : f .retired = .retired)
    {j : Nat} (h : s.cardAt j = none) : (s.mapSlots f).cardSlotAt j = s.cardSlotAt j := by
  rw [State.cardSlotAt_mapSlots]
  rcases State.cardSlotAt_of_cardAt_none h with hx | hx <;> rw [hx]
  · rfl
  · rw [Option.map_some, hf]

/-- COMMAND_DONE beside the flags of the watches. -/
theorem NoticeUnit.raise_commandDone_of {u m : NoticeUnit} {a b : BitVec 13}
    (h : u = { m with flags := m.flags ||| a ||| b }) :
    u.raise .commandDone = { m with flags := m.flags ||| 1#13 ||| a ||| b } := by
  have hflags : m.flags ||| a ||| b ||| 1#13 = m.flags ||| 1#13 ||| a ||| b := by ac_rfl
  rw [← hflags, h]
  rfl

theorem departGuest_ok {s : State} {k : Nat} {g : Guest} (hk : k < 65536) (hn : s.namedGuest k = some g)
    (hp : g.presence = .expected ∨ g.presence = .ashore) : departGuest (e16 k) s
      = .ok (((s.movePresence k g .departed).evaluateWatches s.tally).suspendCards g.cards, []) := by
  have hab : g.presence ≠ .aboard := by rcases hp with h | h <;> simp [h]
  have hgone : g.presence ≠ .departed := by rcases hp with h | h <;> simp [h]
  simp only [departGuest, u16_e16_of_lt hk, hn, need_some, ok_bind, check_of hab, check_of hgone]
  rfl

/-- Settles O24: the tests of R48, then the departure with its evaluations and the suspended cards. -/
theorem departGuestSuspendsCards : Obligations.DepartGuestSuspendsCards := by
  constructor
  · intro s tag k h0 hr hk f
    have refused : ∀ r, departGuest (e16 k) s = .error (r, []) →
        exec (.departGuest f) s = .next (s.answered 0x32 f r []) := fun r =>
      next_refused (c := cmdDepartGuest) h0 (by decide) rfl (record_admitted hr)
    refine ⟨fun hnone => refused _ ?_, fun g hcap hg => ⟨fun hp => refused _ ?_, fun hp => refused _ ?_⟩⟩
    · simp only [departGuest, u16_e16_of_lt hk, State.namedGuest_eq_none hnone, need_none, error_bind]
    · simp only [departGuest, u16_e16_of_lt hk, State.namedGuest_eq_some hcap hg, need_some, ok_bind,
        check_not (not_not_intro hp), error_bind]
    · have hab : g.presence ≠ .aboard := by simp [hp]
      simp only [departGuest, u16_e16_of_lt hk, State.namedGuest_eq_some hcap hg, need_some, ok_bind, check_of hab,
        check_not (not_not_intro hp), error_bind]
  · intro s tag k g h0 hr hs hk hcap hg hp f
    have hwatches : (s.movePresence k g .departed).tally.watches = s.tally.watches := by
      rw [State.movePresence_departed hp]
      split <;> simp [State.departing]
    have hexact := fun h : s.CompletionExact => State.movePresence_departed_of_exact (k := k) hp h
    have hdone : exec (.departGuest f) s = .next _ := next_done (c := cmdDepartGuest) h0 (by decide) rfl
      (record_admitted hr) (departGuest_ok hk (State.namedGuest_eq_some hcap hg) hp)
    have hcell := State.evaluateWatches_watch hwatches
    have hnotice := State.evaluateWatches_notice hwatches
    simp only [← State.fires_evaluateWatches (s := s.movePresence k g .departed) (b := s.tally)] at hcell hnotice
    have hcomplete := State.evaluateWatches_tally_complete (s.movePresence k g .departed) s.tally
    obtain ⟨c, w, n, hform⟩ := State.depart_form (s := s) (k := k) hp
    rw [hform] at hdone hcell hnotice hcomplete
    have hfinds : ((s.departing k g).evaluated c w n).FindsCards := hs.finds.of_eq rfl rfl
    rw [State.suspendCards_eq (s := (s.departing k g).evaluated c w n) g.cards hs.wf_slots hfinds] at hdone
    refine ⟨_, hdone, Table.find_put_self _ _ _, fun j hj => Table.find_put_ne _ hj _, rfl, rfl, rfl, rfl, rfl, rfl, rfl, rfl,
      rfl, fun j x hx => ?_, fun j hj => State.cardSlotAt_mapSlots_of_cardAt_none (s := s) rfl hj, rfl, rfl, rfl, rfl, rfl,
      rfl, rfl, rfl, rfl, rfl, rfl, rfl, rfl, hcell, fun he => ⟨?_, ?_⟩⟩
    · have hslot := (s.cardSlotAt_mapSlots (.mapCard (.changeIn g.cards Card.suspend)) j).trans
        (congrArg _ (State.cardSlotAt_of_cardAt hx))
      exact congrArg (Option.bind · CardSlot.card) hslot
    · exact hcomplete.trans (by rw [hexact he]; rfl)
    · rw [hexact he] at hnotice
      exact NoticeUnit.raise_commandDone_of hnotice

end Sys2Proof.Machine
end

section
/-! RETIRE_GUEST (R31, R49, R50). -/

namespace Sys2Proof.Machine

namespace State

variable {s : State} {k : Nat} {g : Guest}

/-! ### The cabin that a guest leaves -/

theorem quitCabin_eq (s : State) (cabin : Option Nat) (k : Nat) :
    s.quitCabin cabin k = { s with cabin := (s.quitCabin cabin k).cabin } := by cases cabin <;> rfl

/-- Leaving a cabin turns on the cabin unit alone. -/
theorem quitCabin_cabin {t : State} (h : t.cabin = s.cabin) (cabin : Option Nat) :
    (t.quitCabin cabin k).cabin = (s.quitCabin cabin k).cabin := by
  cases cabin with
  | none => exact h
  | some c => simp [quitCabin, removeOccupant, putCabin, cabinAt, h]

theorem quitCabin_overrides (s : State) (cabin : Option Nat) (k : Nat) :
    (s.quitCabin cabin k).cabin.overrides = s.cabin.overrides := by cases cabin <;> rfl

theorem cabinAt_quitCabin_self (hw : Table.wf s.cabin.cabins) (c : Nat) : (s.quitCabin (some c) k).cabinAt c
    = { s.cabinAt c with
        occupants := (s.cabinAt c).occupants.erase k
        privacy := (s.cabinAt c).privacy && !((s.cabinAt c).occupants.erase k).isEmpty } :=
  Table.findD_putD_self hw _ _ _

theorem cabinAt_quitCabin_ne {cabin : Option Nat} {c : Nat} (h : cabin ≠ some c) :
    (s.quitCabin cabin k).cabinAt c = s.cabinAt c := by
  cases cabin with
  | none => rfl
  | some d => exact Table.findD_putD_ne _ (fun hc => h (congrArg some hc.symm)) _ _

/-- A guest is in no occupant list but that of the guest's cabin (R56). -/
theorem OccupantsExact.not_mem (h : s.OccupantsExact) (hg : s.guestAt k = some g) {c : Nat} (hc : g.cabin ≠ some c) :
    k ∉ (s.cabinAt c).occupants := by
  intro hmem
  have hlisted : s.cabinAt c ≠ Cabin.empty := by
    intro hempty
    rw [hempty] at hmem
    exact absurd hmem List.not_mem_nil
  have hentry := Table.find_mem (Table.find_of_findD_ne hlisted)
  obtain ⟨-, -, -, hcabin⟩ := h.2 _ hentry
  have hk := hcabin k hmem
  rw [hg] at hk
  exact hc hk

/-- Leaving a cabin takes the guest off every occupant list, and clears the privacy flag of the cabin that empties. -/
theorem cabinAt_quitCabin (hw : Table.wf s.cabin.cabins) (h : s.OccupantsExact) (hg : s.guestAt k = some g) (c : Nat) :
    (s.quitCabin g.cabin k).cabinAt c = { s.cabinAt c with
      occupants := (s.cabinAt c).occupants.erase k
      privacy := (s.cabinAt c).privacy && !(g.cabin == some c && ((s.cabinAt c).occupants.erase k).isEmpty) } := by
  by_cases hc : g.cabin = some c
  · rw [hc, cabinAt_quitCabin_self hw]
    simp
  · rw [cabinAt_quitCabin_ne hc, List.erase_of_not_mem (OccupantsExact.not_mem h hg hc)]
    have hnot : (g.cabin == some c) = false := by simpa using hc
    simp only [hnot, Bool.false_and, Bool.not_false, Bool.and_true]

/-! ### The folio that a guest leaves -/

theorem leaveFolio_form (s : State) (a : Nat) :
    ∃ folios, s.leaveFolio a = { s with folio := { s.folio with folios := folios } } := by
  unfold leaveFolio
  split
  · split
    · exact ⟨_, rfl⟩
    · exact ⟨_, rfl⟩
  · exact ⟨s.folio.folios, rfl⟩

theorem quitFolio_form (s : State) (folio : Option Nat) :
    ∃ folios, s.quitFolio folio = { s with folio := { s.folio with folios := folios } } := by
  cases folio with
  | none => exact ⟨s.folio.folios, rfl⟩
  | some a => exact s.leaveFolio_form a

theorem quitFolio_eq (s : State) (folio : Option Nat) :
    s.quitFolio folio = { s with folio := (s.quitFolio folio).folio } := by
  obtain ⟨folios, h⟩ := s.quitFolio_form folio
  rw [h]

/-- Leaving a folio turns on the folio unit alone. -/
theorem quitFolio_folio {t : State} (h : t.folio = s.folio) (folio : Option Nat) :
    (t.quitFolio folio).folio = (s.quitFolio folio).folio := by
  cases folio with
  | none => exact h
  | some a =>
    have hfolio : t.folioAt a = s.folioAt a := by rw [folioAt, folioAt, h]
    unfold quitFolio leaveFolio
    dsimp only
    rw [hfolio]
    split
    · split <;> simp [freeFolio, putFolio, h]
    · exact h

theorem quitFolio_outlets (s : State) (folio : Option Nat) :
    (s.quitFolio folio).folio.outlets = s.folio.outlets ∧ (s.quitFolio folio).folio.currencies = s.folio.currencies := by
  obtain ⟨folios, h⟩ := s.quitFolio_form folio
  rw [h]
  exact ⟨rfl, rfl⟩

theorem folioAt_leaveFolio_self {a : Nat} {x : Folio} (hw : Table.wf s.folio.folios) (hx : s.folioAt a = some x) :
    (s.leaveFolio a).folioAt a
      = if x.state = .closed ∧ x.members - 1 = 0 then none else some { x with members := x.members - 1 } := by
  unfold leaveFolio
  rw [hx]
  dsimp only
  split
  · exact Table.find_erase_self hw a
  · exact Table.find_put_self _ _ _

theorem folioAt_leaveFolio_ne {a b : Nat} (h : b ≠ a) : (s.leaveFolio a).folioAt b = s.folioAt b := by
  unfold leaveFolio
  split
  · split
    · exact Table.find_erase_ne _ h
    · exact Table.find_put_ne _ h _
  · rfl

/-- Leaving a folio lowers its member count; a CLOSED folio's last member leaves it FREE (R76, R80). -/
theorem folioAt_quitFolio {a : Nat} {x : Folio} (hw : Table.wf s.folio.folios) (h : s.MembersExact)
    (hx : s.folioAt a = some x) (folio : Option Nat) : (s.quitFolio folio).folioAt a =
      if folio ≠ some a then some x
      else if x.state = .closed ∧ x.members = 1 then none else some { x with members := x.members - 1 } := by
  by_cases ha : folio = some a
  · have hcount : (x.state = .closed ∧ x.members - 1 = 0) ↔ (x.state = .closed ∧ x.members = 1) := by
      refine and_congr_right fun hclosed => ?_
      have hmembers := (h.1 _ (Table.find_mem hx)).2 hclosed
      dsimp only at hmembers
      omega
    rw [if_neg (not_not_intro ha), ha]
    refine (folioAt_leaveFolio_self hw hx).trans ?_
    simp only [hcount]
  · rw [if_pos ha]
    cases folio with
    | none => exact hx
    | some b => exact (folioAt_leaveFolio_ne fun hb => ha (congrArg some hb.symm)).trans hx

end State

/-! ### The totals -/

theorem Tally.mapTotal_retired {p : Presence} (t : Tally) (hp : p ≠ .aboard) : t.mapTotal p (· - 1) = { t with
    expected := if p = .expected then t.expected - 1 else t.expected
    ashore := if p = .ashore then t.ashore - 1 else t.ashore
    departed := if p = .departed then t.departed - 1 else t.departed } := by
  cases p with
  | aboard => exact absurd rfl hp
  | expected => rfl
  | ashore => rfl
  | departed => rfl

/-! ### The command -/

theorem retireGuest_ok {s : State} {k : Nat} {g : Guest} (hk : k < 65536) (hn : s.namedGuest k = some g)
    (hp : g.presence ≠ .aboard) (hh : g.held = 0) : retireGuest (e16 k) s = .ok (s.retire k g, e16 g.cards.length) := by
  simp only [retireGuest, u16_e16_of_lt hk, hn, need_some, ok_bind, check_of hp, check_of hh]
  rfl

/-- What stands after a retirement, its watches not yet evaluated and its index not yet free. -/
def State.retiredAs (s : State) (k : Nat) (g : Guest) : State :=
  { s with
    cards := ⟨Table.mapRecords s.cards.slots (.retireIn g.cards), s.cards.inUseCount - g.cards.length,
      s.cards.retiredCount + g.cards.length⟩
    roster := { s.roster with guests := Table.put s.roster.guests k { g with cards := [] } }
    cabin := (s.quitCabin g.cabin k).cabin
    folio := (s.quitFolio g.folio).folio
    tally := { s.tally with
      expected := if g.presence = .expected then s.tally.expected - 1 else s.tally.expected
      ashore := if g.presence = .ashore then s.tally.ashore - 1 else s.tally.ashore
      departed := if g.presence = .departed then s.tally.departed - 1 else s.tally.departed } }

theorem State.retire_eq {s : State} {k : Nat} {g : Guest} (hs : s.CardsSound) (hg : s.guestAt k = some g)
    (hp : g.presence ≠ .aboard) : s.retire k g = ((s.retiredAs k g).evaluateWatches s.tally).withRoster
      ⟨Table.erase (s.retiredAs k g).roster.guests k, s.roster.enrolled - 1⟩ := by
  obtain ⟨-, hcards⟩ := hs.retireCards g.cards hg
  have hcabin := State.quitCabin_cabin (s := s) (k := k) (t := s.retireCards g.cards) (by rw [hcards]) g.cabin
  have hfolio := State.quitFolio_folio (s := s) (t := (s.retireCards g.cards).quitCabin g.cabin k)
    (by rw [State.quitCabin_eq, hcards]) g.folio
  have hquit : ((s.retireCards g.cards).quitCabin g.cabin k).quitFolio g.folio = { s.retireCards g.cards with
      cabin := (s.quitCabin g.cabin k).cabin, folio := (s.quitFolio g.folio).folio } := by
    rw [State.quitFolio_eq, hfolio, State.quitCabin_eq, hcabin]
  rw [State.retire]
  rw [hquit, hcards, Tally.mapTotal_retired _ hp]
  have hroster := (s.retiredAs k g).evaluateWatches_roster s.tally
  unfold State.retiredAs at hroster ⊢
  simp only [State.withTally] at hroster ⊢
  rw [hroster]

/-- Settles O25: the tests of R49, then the retirement with the evaluation of the watches. -/
theorem retireGuestFreesRecord : Obligations.RetireGuestFreesRecord := by
  constructor
  · intro s tag k h0 hr hk f
    have refused : ∀ r, retireGuest (e16 k) s = .error (r, []) →
        exec (.retireGuest f) s = .next (s.answered 0x33 f r []) := fun r =>
      next_refused (c := cmdRetireGuest) h0 (by decide) rfl (record_admitted hr)
    refine ⟨fun hnone => refused _ ?_, fun g hcap hg => ⟨fun hp => refused _ ?_, fun hp hh => refused _ ?_⟩⟩
    · simp only [retireGuest, u16_e16_of_lt hk, State.namedGuest_eq_none hnone, need_none, error_bind]
    · simp only [retireGuest, u16_e16_of_lt hk, State.namedGuest_eq_some hcap hg, need_some, ok_bind,
        check_not (not_not_intro hp), error_bind]
    · simp only [retireGuest, u16_e16_of_lt hk, State.namedGuest_eq_some hcap hg, need_some, ok_bind, check_of hp,
        check_not hh, error_bind]
  · intro s tag k g h0 hr hs ha hk hcap hg hp hh f
    obtain ⟨⟨hguests, hslots, hfolios, hcabins, -⟩, hmembers, hoccupants⟩ := ha
    have hdone : exec (.retireGuest f) s = .next _ := next_done (c := cmdRetireGuest) h0 (by decide) rfl
      (record_admitted hr) (retireGuest_ok hk (State.namedGuest_eq_some hcap hg) hp hh)
    have hcell := State.evaluateWatches_watch (s := s.retiredAs k g) (b := s.tally) rfl
    have hnotice := State.evaluateWatches_notice (s := s.retiredAs k g) (b := s.tally) rfl
    obtain ⟨w, n, hform⟩ := (s.retiredAs k g).evaluateWatches_form s.tally
    rw [State.retire_eq hs hg hp] at hdone
    rw [hform] at hdone hcell hnotice
    have hcabin := State.cabinAt_quitCabin hcabins hoccupants hg
    refine ⟨_, hdone, Table.find_erase_self (Table.put_wf hguests k _) k, fun j hj => ?_, rfl, rfl, rfl, rfl, rfl, rfl, rfl,
      fun j c hj => ?_, fun j hj => State.cardSlotAt_mapSlots_of_cardAt_none (s := s) rfl hj,
      fun c => congrArg Cabin.occupants (hcabin c),
      fun c => ⟨(congrArg Cabin.window (hcabin c) :), (congrArg Cabin.outOfOrder (hcabin c) :),
        congrArg Cabin.privacy (hcabin c)⟩,
      fun a x hx => State.folioAt_quitFolio hfolios hmembers hx g.folio, rfl, rfl, rfl, rfl, rfl, rfl,
      s.quitCabin_overrides _ _, (s.quitFolio_outlets _).1, (s.quitFolio_outlets _).2, rfl, rfl, rfl, rfl, rfl, rfl,
      hcell, NoticeUnit.raise_commandDone_of hnotice⟩
    · exact (Table.find_erase_ne _ hj).trans (Table.find_put_ne _ hj _)
    · exact (s.cardSlotAt_mapSlots (.retireIn g.cards) j).trans (congrArg _ (State.cardSlotAt_of_cardAt hj))

end Sys2Proof.Machine
end

section
/-! Reads that name a record: READ_CARD, LOOKUP_GUEST and READ_GUEST (R32, R51, R52). -/

namespace Sys2Proof.Machine

/-! ### Selectors -/

theorem selectorAt_index {k : Nat} (hk : k < 4294967296) : selectorAt (e8 0 ++ e32 k) 0 = .index k := by
  have h := u32_after_e8 0 (e32 k) 0
  simp_all [selectorAt, Nat.mod_eq_of_lt hk]

theorem selectorAt_key {k : Nat} (hk : k < 4294967296) : selectorAt (e8 1 ++ e32 k) 0 = .key k := by
  have h := u32_after_e8 1 (e32 k) 0
  simp_all [selectorAt, Nat.mod_eq_of_lt hk]

theorem u32_e32_of_lt {k : Nat} (hk : k < 4294967296) : u32 (e32 k) 0 = k := by rw [u32_e32_nil, Nat.mod_eq_of_lt hk]

/-! ### The bytes of the enumerations -/

theorem eEnum_cardClasses (h : Holder) : eEnum cardClasses h.cls
    = match h with | .guest _ => e8 0 | .service _ => e8 1 | .officer => e8 2 := by cases h <;> rfl

theorem eEnum_cardStates (x : CardState) :
    eEnum cardStates x = match x with | .active => e8 0 | .suspended => e8 1 := by cases x <;> rfl

theorem e8_cardSlotState (x : Option CardSlot) : e8 (cardSlotState x)
    = match x with | none => e8 0 | some (.inUse _) => e8 1 | some .retired => e8 2 := by
  rcases x with _ | _ | _ <;> rfl

theorem eEnum_ageBands (x : AgeBand) :
    eEnum ageBands x = match x with | .adult => e8 0 | .youth => e8 1 | .child => e8 2 := by cases x <;> rfl

theorem eEnum_folioStates (x : FolioState) : eEnum folioStates (some x)
    = match x with | .opened => e8 1 | .frozen => e8 2 | .closed => e8 3 := by cases x <;> rfl

theorem e8_holdPosition (x : HoldStatus) :
    e8 x.position = match x with | .free => e8 0 | .active _ => e8 1 | .lapsed _ => e8 2 := by cases x <;> rfl

theorem ePostKind_eq (x : PostKind) : ePostKind x = match x with
    | .till outlet => e8 0 ++ e16 outlet.val
    | .gate gangway direction => e8 1 ++ e16 gangway.val
        ++ (match direction with | .toggle => e8 0 | .outbound => e8 1 | .inbound => e8 2)
    | .musterReader station => e8 2 ++ e16 station.val := by
  cases x with
  | till o => rfl
  | gate w d => cases d <;> rfl
  | musterReader st => rfl

theorem ePost_eq : ePost = fun e => e16 e.1 ++ e16 e.2.lane.val ++ e16 e.2.terminal.toNat ++ (match e.2.kind with
    | .till outlet => e8 0 ++ e16 outlet.val
    | .gate gangway direction => e8 1 ++ e16 gangway.val
        ++ (match direction with | .toggle => e8 0 | .outbound => e8 1 | .inbound => e8 2)
    | .musterReader station => e8 2 ++ e16 station.val) :=
  funext fun e => congrArg (e16 e.1 ++ e16 e.2.lane.val ++ e16 e.2.terminal.toNat ++ ·) (ePostKind_eq e.2.kind)

/-! ### READ_CARD, LOOKUP_GUEST and READ_GUEST -/

section

variable {s : State}

theorem readCard_index {k : Nat} (hk : k < 4294967296) (hc : k < s.store.caps.cards) :
    readCard (e8 0 ++ e32 k) s = .ok (s, e8 (cardSlotState (s.cardSlotAt k))
      ++ (match s.cardSlotAt k with
          | some (.inUse c) => eCard s.draws c ++ e16 (homeSlot s.store.caps.cards c.serial)
          | some .retired => []
          | none => [])
      ++ s.eCardCounts) := by
  rw [readCard, selectorAt_index hk]
  exact if_pos hc

theorem readCard_index_range {k : Nat} (hk : k < 4294967296) (hc : s.store.caps.cards ≤ k) :
    readCard (e8 0 ++ e32 k) s = .error (.range, []) := by
  simp only [readCard, selectorAt_index hk, if_neg (Nat.not_lt.2 hc)]

theorem readCard_found {serial k : Nat} {c : Card} (hs : serial < 4294967296) (h : s.lookupCard serial = some (k, c)) :
    readCard (e8 1 ++ e32 serial) s
      = .ok (s, e16 k ++ e16 (homeSlot s.store.caps.cards serial) ++ eCard s.draws c ++ s.eCardCounts) := by
  simp only [readCard, selectorAt_key hs, h]

theorem readCard_notFound {serial : Nat} (hs : serial < 4294967296) (h : s.lookupCard serial = none) :
    readCard (e8 1 ++ e32 serial) s = .error (.notFound, e16 (homeSlot s.store.caps.cards serial)
      ++ (probeWindow s.store.caps.cards serial).flatMap (fun k => e8 (cardSlotState (s.cardSlotAt k)))) := by
  simp only [readCard, selectorAt_key hs, h]

theorem lookupGuest_found {reference k : Nat} {g : Guest} (hr : reference < 4294967296) (h1 : 1 ≤ reference)
    (h : s.findReference reference = some (k, g)) :
    lookupGuest (e32 reference) s = .ok (s, e16 k ++ eEnum presences g.presence) := by
  have hne : reference ≠ 0 := by omega
  simp only [lookupGuest, u32_e32_of_lt hr, check_of hne, ok_bind, h, need_some]
  rfl

theorem lookupGuest_notFound {reference : Nat} (hr : reference < 4294967296)
    (h : ∀ e ∈ s.roster.guests, e.2.reference ≠ reference) :
    lookupGuest (e32 reference) s = .error (if reference = 0 then .range else .notFound, []) := by
  by_cases h0 : reference = 0
  · simp only [lookupGuest, u32_e32_of_lt hr, check_not (not_not_intro h0), error_bind, if_pos h0]
  · have hnone : s.findReference reference = none := List.find?_eq_none.2 fun e he => by simpa using h e he
    simp only [lookupGuest, u32_e32_of_lt hr, check_of h0, ok_bind, hnone, need_none, error_bind, if_neg h0]

theorem readGuest_notFound {k : Nat} (hk : k < 65536) (h : s.store.caps.guests ≤ k ∨ s.guestAt k = none) :
    readGuest (e16 k) s = .error (.notFound, []) := by
  simp only [readGuest, u16_e16_of_lt hk, State.namedGuest_eq_none h, need_none, error_bind]

/-- The data of READ_GUEST (R52). -/
def State.eGuest (s : State) (g : Guest) : List Byte :=
  e32 g.reference ++ eEnum ageBands g.band ++ eFirst g.mayCharge ++ e16 g.station.val ++ eFirst g.watch
    ++ eOpt s.draws 5 s.store.eGuestCabin g.cabin ++ eOpt s.draws 2 e16 g.folio ++ eOpt s.draws 4 e32 g.dayLimit
    ++ eList e32 g.cards ++ eEnum presences g.presence ++ e8 g.epoch ++ eOpt s.draws 4 e32 g.lastPass
    ++ e16 g.spendDay ++ e32 g.spent ++ e32 (g.effectiveSpent s.clock.day)
    ++ eDayAllowance s.draws (g.dayAllowance s.clock.day) ++ e32 g.held ++ e16 s.roster.enrolled

theorem readGuest_named {k : Nat} {g : Guest} (hk : k < 65536) (hc : k < s.store.caps.guests)
    (hg : s.guestAt k = some g) : readGuest (e16 k) s = .ok (s, s.eGuest g) := by
  simp only [readGuest, u16_e16_of_lt hk, State.namedGuest_eq_some hc hg, need_some, ok_bind]
  rfl

end

end Sys2Proof.Machine
end

section
/-! Reads that name a record: FIND_GUESTS (R53). -/

namespace Sys2Proof.Machine

/-! ### Fields behind a part of known length -/

section Behind

variable {a p : List Byte} {n : Nat} (h : a.length = n) (k : Nat)

include h

theorem byteAt_behind : byteAt (a ++ p) (n + k) = byteAt p k := by
  rw [← h, Nat.add_comm]
  exact byteAt_append a p k

theorem u8_behind : u8 (a ++ p) (n + k) = u8 p k := congrArg BitVec.toNat (byteAt_behind h k)

theorem u16_behind : u16 (a ++ p) (n + k) = u16 p k := by
  simp only [u16, Nat.add_assoc, u8_behind h]

theorem cabinCodeAt_behind : cabinCodeAt (a ++ p) (n + k) = cabinCodeAt p k := by
  simp only [cabinCodeAt, Nat.add_assoc, byteAt_behind h]

theorem settingAt_behind {α : Type} (v : α) : settingAt (a ++ p) (n + k) v = settingAt p k v := by
  simp only [settingAt, u8_behind h]

theorem settingEnumAt_behind {α : Type} (values : List α) :
    settingEnumAt values (a ++ p) (n + k) = settingEnumAt values p k := by
  simp only [settingEnumAt, enumAt, Nat.add_assoc, u8_behind h, settingAt_behind h]

end Behind

/-! ### Optional fields -/

theorem length_givenOr {α : Type} {x : Option α} {marker n : Nat} {junk : List Byte} {value : α → List Byte}
    (hj : junk.length = n) (hv : ∀ a, (value a).length = n) : (givenOr marker junk value x).length = n + 1 := by
  cases x with
  | none => simp [givenOr, hj, Nat.add_comm]
  | some a => simp [givenOr, hv, Nat.add_comm]

/-- An optional field reads as what it was written for, when its value does (R175). -/
theorem optional_givenOr {α β : Type} {x : Option α} {junk p : List Byte} {value : α → List Byte} {v : β} (f : α → β)
    (hv : ∀ a ∈ x, v = f a) : (settingAt (givenOr 0 junk value x ++ p) 0 v).optional = some (x.map f) := by
  rw [settingAt_optional]
  cases x with
  | none => rfl
  | some a => rw [hv a rfl]; rfl

/-- An optional enumeration reads as what it was written for. -/
theorem optional_givenOr_presence (x : Option Presence) (p : List Byte) :
    (settingEnumAt presences (givenOr 0 (e8 0) (fun x : Presence =>
      e8 (match x with | .expected => 0 | .aboard => 1 | .ashore => 2 | .departed => 3)) x ++ p) 0).optional = some x := by
  rcases x with _ | _ | _ | _ | _ <;> rfl

/-! ### The payload of FIND_GUESTS -/

/-- The five fields, each behind the ones before it. -/
theorem readFindGuests_parts {a b c d : List Byte} (start : Nat) (ha : a.length = 2) (hb : b.length = 3)
    (hc : c.length = 4) : readFindGuests (e16 start ++ a ++ b ++ c ++ d)
      = ⟨start % 65536, settingEnumAt presences (a ++ (b ++ (c ++ d))) 0,
          settingAt (b ++ (c ++ d)) 0 (u16 (b ++ (c ++ d)) 1), settingAt (c ++ d) 0 (cabinCodeAt (c ++ d) 1),
          settingAt d 0 (u16 d 1)⟩ := by
  have h2 : (e16 start).length = 2 := rfl
  have h4 : (e16 start ++ a).length = 4 := by simp [ha]
  have h7 : (e16 start ++ a ++ b).length = 7 := by simp [ha, hb]
  have h11 : (e16 start ++ a ++ b ++ c).length = 11 := by simp [ha, hb, hc]
  have hstart : u16 (e16 start ++ a ++ b ++ c ++ d) 0 = start % 65536 := by simp
  have hpresence := settingEnumAt_behind h2 (p := a ++ (b ++ (c ++ d))) 0 presences
  have hstation := fun v : Nat => settingAt_behind h4 (p := b ++ (c ++ d)) 0 v
  have hstation' := u16_behind h4 (p := b ++ (c ++ d)) 1
  have hcabin := fun v : CabinCode => settingAt_behind h7 (p := c ++ d) 0 v
  have hcabin' := cabinCodeAt_behind h7 (p := c ++ d) 1
  have hfolio := fun v : Nat => settingAt_behind h11 (p := d) 0 v
  have hfolio' := u16_behind h11 (p := d) 1
  simp only [List.append_assoc, Nat.add_zero, Nat.reduceAdd] at *
  rw [readFindGuests, hstart, hpresence, hstation', hstation, hcabin', hcabin, hfolio', hfolio]

/-- A FIND_GUESTS frame reads as the start and the criteria that it was written for (R53). -/
theorem readFindGuests_encoded {start : Nat} {presence : Option Presence} {station : Option (Fin 16)}
    {code : Option CabinCode} {folio : Option Nat} (hs : start < 65536) (hf : ∀ x ∈ folio, x < 65536) :
    ∃ p t c f, p.optional = some presence ∧ t.optional = some (station.map Fin.val) ∧ c.optional = some code
      ∧ f.optional = some folio ∧ readFindGuests (e16 start
        ++ givenOr 0 (e8 0) (fun x : Presence =>
            e8 (match x with | .expected => 0 | .aboard => 1 | .ashore => 2 | .departed => 3)) presence
        ++ givenOr 0 (e16 0) (fun x : Fin 16 => e16 x.val) station ++ givenOr 0 (eCode 0) eCode code
        ++ givenOr 0 (e16 0) e16 folio) = ⟨start, p, t, c, f⟩ := by
  have hread := fun d : List Byte => readFindGuests_parts (d := d) start
    (length_givenOr (x := presence) (marker := 0) (n := 1) (junk := e8 0) (value := fun x : Presence =>
      e8 (match x with | .expected => 0 | .aboard => 1 | .ashore => 2 | .departed => 3)) rfl (fun _ => rfl))
    (length_givenOr (x := station) (marker := 0) (n := 2) (junk := e16 0) (value := fun x : Fin 16 => e16 x.val) rfl
      (fun _ => rfl))
    (length_givenOr (x := code) (marker := 0) (n := 3) (junk := eCode 0) (value := eCode) rfl (fun _ => rfl))
  rw [hread, Nat.mod_eq_of_lt hs]
  have hfolio := optional_givenOr (x := folio) (junk := e16 0) (p := []) (value := e16)
    (v := u16 (givenOr 0 (e16 0) e16 folio) 1) id fun x hx => by
      obtain rfl := Option.mem_def.1 hx
      simp [givenOr, Nat.mod_eq_of_lt (hf x rfl)]
  rw [Option.map_id_fun, id, List.append_nil] at hfolio
  refine ⟨_, _, _, _, optional_givenOr_presence _ _, optional_givenOr Fin.val fun x hx => ?_,
    (optional_givenOr id fun x hx => ?_).trans (congrArg some (by simp)), hfolio, rfl⟩
  · obtain rfl := Option.mem_def.1 hx
    have hlt : x.val < 65536 := by omega
    simp [givenOr, List.append_assoc, Nat.mod_eq_of_lt hlt]
  · obtain rfl := Option.mem_def.1 hx
    simp [givenOr, List.append_assoc]

/-! ### The search -/

theorem decodeOptional_eq_none {st : Store} {code : Option CabinCode} (h : ∃ c ∈ code, st.decode c = none) :
    st.decodeOptional code = none := by
  obtain ⟨c, hc, hnone⟩ := h
  obtain rfl := Option.mem_def.1 hc
  simp [Store.decodeOptional, Store.cabinIndex, hnone]

/-- Codes that decode name the cabins that guests are compared with. -/
theorem decodeOptional_eq_some {st : Store} {code : Option CabinCode} (h : ∀ c ∈ code, st.decode c ≠ none) :
    ∃ cabin, st.decodeOptional code = some cabin
      ∧ ∀ x : Option Nat, cabin.all (fun i => x == some i) = code.all (fun c => x == (st.decode c).map Prod.snd) := by
  cases code with
  | none => exact ⟨none, rfl, fun _ => rfl⟩
  | some c =>
    obtain ⟨i, hi⟩ := Option.ne_none_iff_exists'.1 (h c rfl)
    exact ⟨some i.2, by simp [Store.decodeOptional, Store.cabinIndex, hi], fun x => by simp [hi]⟩

theorem continuation_eq (found : List Nat) (last : Nat) : continuation found last
    = if found.length = 16 ∧ found.getLastD 0 < last then some (found.getLastD 0 + 1) else none := by
  unfold continuation
  rw [List.getLastD_eq_getLast?]
  cases hlast : found.getLast? with
  | none => simp [List.getLast?_eq_none_iff.1 hlast]
  | some k => rfl

theorem agrees_eq (g : Guest) (presence : Option Presence) (station : Option (Fin 16)) (cabin folio : Option Nat) :
    g.agrees presence (station.map Fin.val) cabin folio
      = (presence.all (fun x => g.presence == x) && station.all (fun x => g.station == x)
        && cabin.all (fun x => g.cabin == some x) && folio.all (fun x => g.folio == some x)) := by
  have hstation : (station.map Fin.val).all (fun x => g.station.val == x) = station.all (fun x => g.station == x) := by
    cases station with
    | none => rfl
    | some x =>
      rw [Bool.eq_iff_iff]
      simp [Fin.ext_iff]
  rw [Guest.agrees, hstation]

theorem findGuests_tests {s : State} {start : Nat} {station : Option (Fin 16)} {folio : Option Nat}
    (hstart : start ≤ s.store.caps.guests) (hfolio : ∀ x ∈ folio, x < s.store.caps.folios) :
    start ≤ s.store.caps.guests ∧ (∀ x ∈ station.map Fin.val, x ≤ 15) ∧ ∀ x ∈ folio, x < s.store.caps.folios := by
  refine ⟨hstart, fun x hx => ?_, hfolio⟩
  obtain ⟨y, -, rfl⟩ := Option.map_eq_some_iff.1 hx
  omega

/-- The criteria of FIND_GUESTS, a cabin by its code (R53). -/
def Guest.meets (g : Guest) (st : Store) (presence : Option Presence) (station : Option (Fin 16))
    (code : Option CabinCode) (folio : Option Nat) : Bool :=
  presence.all (fun x => g.presence == x) && station.all (fun x => g.station == x)
    && code.all (fun c => g.cabin == (st.decode c).map Prod.snd) && folio.all (fun x => g.folio == some x)

/-- The first 16 guests from an index that meet the criteria (R53). -/
def State.findFrom (s : State) (start : Nat) (presence : Option Presence) (station : Option (Fin 16))
    (code : Option CabinCode) (folio : Option Nat) : List Nat :=
  ((s.roster.guests.filter (fun e =>
    decide (start ≤ e.1) && e.2.meets s.store presence station code folio)).map Prod.fst).take 16

section

variable {s : State} {start : Nat} {presence : Option Presence} {station : Option (Fin 16)} {code : Option CabinCode}
  {folio : Option Nat} {payload : List Byte} {p : Setting Presence} {t : Setting Nat} {c : Setting CabinCode}
  {f : Setting Nat} (hread : readFindGuests payload = ⟨start, p, t, c, f⟩) (hp : p.optional = some presence)
  (ht : t.optional = some (station.map Fin.val)) (hc : c.optional = some code) (hf : f.optional = some folio)

include hread hp ht hc hf

theorem findGuests_range (h : s.store.caps.guests < start ∨ ∃ x ∈ folio, s.store.caps.folios ≤ x) :
    findGuests payload s = .error (.range, []) := by
  have hbad : ¬ (start ≤ s.store.caps.guests ∧ (∀ x ∈ station.map Fin.val, x ≤ 15)
      ∧ ∀ x ∈ folio, x < s.store.caps.folios) := by
    rintro ⟨hstart, -, hfolio⟩
    rcases h with h | ⟨x, hx, h⟩
    · omega
    · exact absurd (hfolio x hx) (Nat.not_lt.2 h)
  simp only [findGuests, hread, hp, ht, hc, hf, need_some, ok_bind, check_not hbad, error_bind]

variable (hstart : start ≤ s.store.caps.guests) (hfolio : ∀ x ∈ folio, x < s.store.caps.folios)

include hstart hfolio

theorem findGuests_badCabin (h : ∃ x ∈ code, s.store.decode x = none) :
    findGuests payload s = .error (.badCabin, []) := by
  have hok := findGuests_tests (station := station) hstart hfolio
  simp only [findGuests, hread, hp, ht, hc, hf, need_some, ok_bind, check_of hok, decodeOptional_eq_none h, need_none,
    error_bind]

theorem findGuests_ok (h : ∀ x ∈ code, s.store.decode x ≠ none) :
    findGuests payload s = .ok (s, e16 (s.findFrom start presence station code folio).length
      ++ (s.findFrom start presence station code folio).flatMap e16
      ++ eContinuation s.draws (continuation (s.findFrom start presence station code folio) (s.store.caps.guests - 1))
      ++ e16 s.roster.enrolled) := by
  have hok := findGuests_tests (station := station) hstart hfolio
  obtain ⟨cabin, hcabin, hall⟩ := decodeOptional_eq_some h
  have hmeets : ∀ g : Guest, g.agrees presence (station.map Fin.val) cabin folio
      = g.meets s.store presence station code folio := fun g => by rw [agrees_eq, hall]; rfl
  simp only [findGuests, hread, hp, ht, hc, hf, need_some, ok_bind, check_of hok, hcabin, hmeets]
  rfl

end

end Sys2Proof.Machine
end

section
/-! Reads that name a record: READ_CABIN, READ_FOLIO, READ_HOLD, READ_OUTLET and READ_POSTS (R73, R81, R85, R111, R164);
with them the statement about the nine reads. -/

namespace Sys2Proof.Machine

section

variable {s : State}

/-! ### READ_CABIN -/

/-- The data of READ_CABIN (R73). -/
def State.eCabinRead (s : State) (i : Nat) : List Byte :=
  e16 i ++ eCode (s.store.codeOfIndex i) ++ e16 ((s.store.deckRoom i).getD (0, 0)).1
    ++ e16 ((s.store.deckRoom i).getD (0, 0)).2 ++ eCabin s.draws (s.cabinAt i)
    ++ e16 s.clock.minute ++ eMark (insideWindow (s.cabinAt i).window s.clock.minute)
    ++ (match s.activeOverride i with
        | none => e8 0
        | some (n, o) => e8 1 ++ e8 n.val ++ eOverrideAction o.action)

theorem readCabin_ok {p : List Byte} {i : Nat} (h : s.store.selectCabin (selectorAt p 0) = .ok i) :
    readCabin p s = .ok (s, s.eCabinRead i) := by
  rw [readCabin, h]
  rfl

theorem readCabin_refused {p : List Byte} {r : Result} (h : s.store.selectCabin (selectorAt p 0) = .error (r, [])) :
    readCabin p s = .error (r, []) := by
  rw [readCabin, h]
  rfl

theorem selectCabin_code (st : Store) (c : CabinCode) :
    st.selectCabin (selectorAt (e8 1 ++ e32 c.toNat) 0) = need ((st.decode c).map Prod.snd) .badCabin := by
  have hlt : c.toNat < 4294967296 := by
    have := c.isLt
    omega
  rw [selectorAt_key hlt, Store.selectCabin, BitVec.ofNat_toNat, BitVec.setWidth_eq]
  rfl

/-! ### READ_FOLIO -/

/-- The data of READ_FOLIO (R81). -/
def State.eFolioRead (s : State) (k : Nat) (f : Folio) : List Byte :=
  e16 k ++ e32 f.number ++ eEnum folioStates (some f.state) ++ e32 f.credit ++ eInt f.balance ++ e32 f.held
    ++ eInt f.available ++ e16 f.members ++ eList s.eHoldEntry f.holds

theorem readFolio_ok {p : List Byte} {k : Nat} {f : Folio} (h : s.selectFolio (selectorAt p 0) = .ok (k, f)) :
    readFolio p s = .ok (s, s.eFolioRead k f) := by
  rw [readFolio, h]
  rfl

theorem readFolio_refused {p : List Byte} {r : Result} (h : s.selectFolio (selectorAt p 0) = .error (r, [])) :
    readFolio p s = .error (r, []) := by
  rw [readFolio, h]
  rfl

theorem State.namedFolio_eq_some {k : Nat} {f : Folio} (hk : k < s.store.caps.folios) (hf : s.folioAt k = some f) :
    s.namedFolio k = some f := (if_pos hk).trans hf

theorem State.namedFolio_eq_none {k : Nat} (h : s.store.caps.folios ≤ k ∨ s.folioAt k = none) :
    s.namedFolio k = none := by
  unfold State.namedFolio
  split
  · exact h.resolve_left (by omega)
  · rfl

theorem selectFolio_index_some {k : Nat} {f : Folio} (h : s.namedFolio k = some f) :
    s.selectFolio (.index k) = .ok (k, f) := by
  rw [State.selectFolio, h]
  rfl

theorem selectFolio_index_none {k : Nat} (h : s.namedFolio k = none) :
    s.selectFolio (.index k) = .error (.notFound, []) := by
  rw [State.selectFolio, h]
  rfl

/-! ### READ_HOLD -/

theorem count_active (u : HoldPool) : u.count 1 = u.slots.countP (fun e => e.2.activeHold.isSome) := by
  rw [HoldPool.count, ← List.countP_eq_length_filter]
  refine List.countP_congr fun e _ => ?_
  unfold HoldSlot.activeHold
  cases e.2.status <;> simp [HoldStatus.position]

theorem count_lapsed (u : HoldPool) : u.count 2 = u.slots.countP (fun e => e.2.isLapsed) := by
  rw [HoldPool.count, ← List.countP_eq_length_filter]
  refine List.countP_congr fun e _ => ?_
  unfold HoldSlot.isLapsed
  cases e.2.status <;> simp [HoldStatus.position]

theorem readHold_ok {k : Nat} (hk : k < 256) : readHold (e8 k) s = .ok (s,
    e8 (s.holdAt k).status.position ++ e8 (s.holdAt k).generation.toNat ++ s.eHoldDetail k
      ++ e16 (256 - s.hold.slots.countP (fun e => e.2.activeHold.isSome) - s.hold.slots.countP (fun e => e.2.isLapsed))
      ++ e16 (s.hold.slots.countP (fun e => e.2.activeHold.isSome))
      ++ e16 (s.hold.slots.countP (fun e => e.2.isLapsed))) := by
  simp only [readHold, u8_e8_nil, Nat.mod_eq_of_lt hk, HoldPool.freeCount, count_active, count_lapsed]

/-! ### READ_OUTLET and READ_POSTS -/

theorem readOutlet_ok {k : Nat} (hk : k < 64) : readOutlet (e16 k) s = .ok (s, eOutlet s.draws (s.outletAt k)) := by
  have hfin : asFin 64 k = some ⟨k, hk⟩ := dif_pos hk
  simp only [readOutlet, u16_e16_of_lt (Nat.lt_trans hk (by decide : 64 < 65536)), hfin, need_some, ok_bind]
  rfl

theorem readOutlet_range {k : Nat} (hk : k < 65536) (h : 64 ≤ k) : readOutlet (e16 k) s = .error (.range, []) := by
  have hfin : asFin 64 k = none := dif_neg (Nat.not_lt.2 h)
  simp only [readOutlet, u16_e16_of_lt hk, hfin, need_none, error_bind]

/-- The first 16 posts from an entry number (R164). -/
def State.postsFrom (s : State) (start : Nat) : Table Post :=
  (s.field.posts.filter (fun e => decide (start ≤ e.1))).take 16

theorem readPosts_ok {start : Nat} (h : start ≤ 256) : readPosts (e16 start) s = .ok (s,
    eList ePost (s.postsFrom start) ++ eContinuation s.draws (continuation ((s.postsFrom start).map Prod.fst) 255)
      ++ e16 s.field.posts.length) := by
  simp only [readPosts, u16_e16_of_lt (Nat.lt_of_le_of_lt h (by decide : 256 < 65536)), check_of h, ok_bind]
  rfl

theorem readPosts_range {start : Nat} (hs : start < 65536) (h : 256 < start) :
    readPosts (e16 start) s = .error (.range, []) := by
  simp only [readPosts, u16_e16_of_lt hs, check_not (Nat.not_le.2 h), error_bind]

end

/-! ### The nine reads -/

theorem length_findPayload (start : Nat) (presence : Option Presence) (station : Option (Fin 16))
    (code : Option CabinCode) (folio : Option Nat) : (e16 start
      ++ givenOr 0 (e8 0) (fun x : Presence =>
          e8 (match x with | .expected => 0 | .aboard => 1 | .ashore => 2 | .departed => 3)) presence
      ++ givenOr 0 (e16 0) (fun x : Fin 16 => e16 x.val) station ++ givenOr 0 (eCode 0) eCode code
      ++ givenOr 0 (e16 0) e16 folio).length = 14 := by
  have hpresence : (givenOr 0 (e8 0) (fun x : Presence =>
    e8 (match x with | .expected => 0 | .aboard => 1 | .ashore => 2 | .departed => 3)) presence).length = 2 :=
    length_givenOr rfl fun _ => rfl
  have hstation : (givenOr 0 (e16 0) (fun x : Fin 16 => e16 x.val) station).length = 3 := length_givenOr rfl fun _ => rfl
  have hcode : (givenOr 0 (eCode 0) eCode code).length = 4 := length_givenOr rfl fun _ => rfl
  have hfolio : (givenOr 0 (e16 0) e16 folio).length = 3 := length_givenOr rfl fun _ => rfl
  rw [List.length_append, List.length_append, List.length_append, List.length_append, hpresence, hstation, hcode, hfolio]
  rfl

/-- A read answers its data, however written, and changes nothing. -/
theorem next_reads {c : Command} {tag : Byte} {p : List Byte} {body : List Byte → State → Verdict (State × List Byte)}
    {s : State} {data data' : List Byte} (h0 : s.link.slot = .empty) (hc : c.length ≤ 120) (hp : p.length = c.length)
    (h4 : c.cls.refusal s.store.part = none) (hb : body p s = .ok (s, data)) (hd : data = data') :
    (.next (hostCommand c (frameOf tag p) body s) : Host.Outcome State Fault Refusal)
      = .next (s.answered c.code (frameOf tag p) .done data') := by
  rw [← hd]
  exact next_done h0 hc hp h4 hb

/-- Settles O14, read by read. -/
theorem readsOfOneRecord : Obligations.ReadsOfOneRecord := by
  intro s tag h0 card slotState counts flag presence window
  have hop := operation_admitted s.store.part
  have hcard : ∀ c, eCard s.draws c = card c := fun c => by
    simp only [eCard, eEnum_cardClasses, eEnum_cardStates]
    rfl
  have hslot : ∀ k, e8 (cardSlotState (s.cardSlotAt k)) = slotState k := fun k => e8_cardSlotState _
  have hpresence : ∀ p, eEnum presences p = presence p := eEnum_presences
  refine ⟨fun hr => ?_, ?_, ?_, ?_, ?_⟩
  · have hrec := record_admitted hr
    refine ⟨fun k hk => ⟨fun hc => ?_, fun hc => ?_⟩, fun serial hs => ⟨fun k c hl => ?_, fun hl => ?_⟩,
      fun reference k g h1 hlt hfind => ?_, fun reference hlt hnone => ?_, fun k hk hnone => ?_, fun k g hk hc hg => ?_,
      ?_, ?_, ?_, ?_⟩
    · refine next_reads (c := cmdReadCard) h0 (by decide) rfl hrec (readCard_index hk hc) ?_
      rw [hslot]
      rcases s.cardSlotAt k with _ | _ | c
      · rfl
      · rfl
      · dsimp only
        rw [hcard]
        rfl
    · exact next_refused (c := cmdReadCard) h0 (by decide) rfl hrec (readCard_index_range hk hc)
    · exact next_reads (c := cmdReadCard) h0 (by decide) rfl hrec (readCard_found hs hl) (by rw [hcard]; rfl)
    · have hnot := readCard_notFound hs hl
      simp only [hslot] at hnot
      exact next_refused (c := cmdReadCard) h0 (by decide) rfl hrec hnot
    · refine next_reads (c := cmdLookupGuest) h0 (by decide) rfl hrec (lookupGuest_found hlt h1 hfind) ?_
      rw [hpresence]
    · exact next_refused (c := cmdLookupGuest) h0 (by decide) rfl hrec (lookupGuest_notFound hlt hnone)
    · exact next_refused (c := cmdReadGuest) h0 (by decide) rfl hrec (readGuest_notFound hk hnone)
    · refine next_reads (c := cmdReadGuest) h0 (by decide) rfl hrec (readGuest_named hk hc hg) ?_
      simp only [State.eGuest, hpresence, eEnum_ageBands, eList, List.append_assoc]
      rfl
    · intro start p station code folio hs hf f
      obtain ⟨p', t', c', f', hp, ht, hc, hfo, hread⟩ :=
        readFindGuests_encoded (presence := p) (station := station) (code := code) hs hf
      have hlen := length_findPayload start p station code folio
      refine ⟨fun h => ?_, fun hstart hfolio => ⟨fun h => ?_, fun h => ?_⟩⟩
      · exact next_refused (c := cmdFindGuests) h0 (by decide) hlen hrec (findGuests_range hread hp ht hc hfo h)
      · exact next_refused (c := cmdFindGuests) h0 (by decide) hlen hrec
          (findGuests_badCabin hread hp ht hc hfo hstart hfolio h)
      · intro matching found next
        refine next_reads (c := cmdFindGuests) h0 (by decide) hlen hrec (findGuests_ok hread hp ht hc hfo hstart hfolio h) ?_
        rw [continuation_eq]
        rfl
    · intro read
      have hdata : ∀ i, s.eCabinRead i = read i := fun i => by
        simp only [State.eCabinRead, eCabin, eList, eOverrideAction_eq, List.append_assoc, read]
        rfl
      refine ⟨fun i hi => ⟨fun hc => ?_, fun hc => ?_⟩, fun c => ⟨fun deck i hdecode => ?_, fun hdecode => ?_⟩⟩
      · refine next_reads (c := cmdReadCabin) h0 (by decide) rfl hrec (readCabin_ok ?_) (hdata i)
        rw [selectorAt_index hi, Store.selectCabin, if_pos hc]
      · refine next_refused (c := cmdReadCabin) h0 (by decide) rfl hrec (readCabin_refused ?_)
        rw [selectorAt_index hi, Store.selectCabin, if_neg (Nat.not_lt.2 hc)]
      · refine next_reads (c := cmdReadCabin) h0 (by decide) rfl hrec (readCabin_ok ?_) (hdata i)
        rw [selectCabin_code, hdecode]
        rfl
      · refine next_refused (c := cmdReadCabin) h0 (by decide) rfl hrec (readCabin_refused ?_)
        rw [selectCabin_code, hdecode]
        rfl
    · intro read
      have hdata : ∀ k x, s.eFolioRead k x = read k x := fun k x => by
        simp only [State.eFolioRead, eEnum_folioStates, eList, List.append_assoc, read]
        rfl
      refine ⟨fun k hk => ⟨fun x hc hx => ?_, fun hnone => ?_⟩, fun number hn => ⟨fun k x hfind => ?_, fun hnone => ?_⟩⟩
      · refine next_reads (c := cmdReadFolio) h0 (by decide) rfl hrec (readFolio_ok ?_) (hdata k x)
        rw [selectorAt_index hk, selectFolio_index_some (State.namedFolio_eq_some hc hx)]
      · refine next_refused (c := cmdReadFolio) h0 (by decide) rfl hrec (readFolio_refused ?_)
        rw [selectorAt_index hk, selectFolio_index_none (State.namedFolio_eq_none hnone)]
      · refine next_reads (c := cmdReadFolio) h0 (by decide) rfl hrec (readFolio_ok ?_) (hdata k x)
        rw [selectorAt_key hn, State.selectFolio, State.findNumber, hfind, need_some]
      · have hnot : s.findNumber number = none := List.find?_eq_none.2 fun e he => by simpa using hnone e he
        refine next_refused (c := cmdReadFolio) h0 (by decide) rfl hrec (readFolio_refused ?_)
        rw [selectorAt_key hn, State.selectFolio, hnot, need_none]
    · intro k hk f x record active lapsed
      refine next_reads (c := cmdReadHold) h0 (by decide) rfl hrec (readHold_ok hk) ?_
      rw [e8_holdPosition, State.eHoldDetail]
      rfl
  · intro k hk f o
    exact next_reads (c := cmdReadOutlet) h0 (by decide) rfl hop (readOutlet_ok hk) rfl
  · exact fun k h hk => next_refused (c := cmdReadOutlet) h0 (by decide) rfl hop (readOutlet_range hk h)
  · exact fun start h hs => next_refused (c := cmdReadPosts) h0 (by decide) rfl hop (readPosts_range hs h)
  · intro start h f found last next
    refine next_reads (c := cmdReadPosts) h0 (by decide) rfl hop (readPosts_ok h) ?_
    rw [continuation_eq, List.length_map, eList, ePost_eq]
    rfl

end Sys2Proof.Machine
end

section
/-! What the tallies, the assignments and the ranges of the guests are read from, and the commands that leave it as it
was (R36, R37, R56, R75, R76, R115, R139). -/

namespace Sys2Proof.Machine

/-- The part of a state that TalliesSound, AssignmentsSound and RangesSound speak of, apart from the tables' order. -/
structure Ledger where
  part       : PartState
  roster     : Roster
  cabins     : Table Cabin
  folios     : Table Folio
  currencies : Vector Currency 8
  expected   : Nat
  aboard     : Nat
  ashore     : Nat
  departed   : Nat
  aboardAt   : Vector Nat 16
  unmustered : Vector Nat 16
  epoch      : Nat
  stations   : BitVec 16
  complete   : Bool
  muster     : Bool
  clock      : Clock

def State.ledger (s : State) : Ledger :=
  ⟨s.store.part, s.roster, s.cabin.cabins, s.folio.folios, s.folio.currencies, s.tally.expected, s.tally.aboard,
    s.tally.ashore, s.tally.departed, s.tally.aboardAt, s.tally.unmustered, s.tally.epoch, s.tally.stations,
    s.tally.complete, s.mode.muster, s.clock⟩

/-- The state `t` has the ledger of the state `s`, and its tables rise. -/
abbrev State.LedgerAs (s t : State) : Prop := t.TablesSorted ∧ t.ledger = s.ledger

namespace State

variable {s t : State}

theorem LedgerAs.refl (h : s.TablesSorted) : s.LedgerAs s := ⟨h, rfl⟩

theorem LedgerAs.of_tables (h : s.TablesSorted) (ht : t.tables = s.tables) (hl : t.ledger = s.ledger) : s.LedgerAs t :=
  ⟨show t.tables.Sorted from ht ▸ h, hl⟩

@[simp] theorem ledger_evaluateWatches (s : State) (b : Tally) : (s.evaluateWatches b).ledger = s.ledger := by
  simp [ledger]

theorem ledger_markGroup (s : State) (g : Guest) : (s.markGroup g).ledger = s.ledger := by
  unfold markGroup
  split <;> rfl

theorem ledger_receiveRequest (s : State) (n : Fin 4) (r : Request) : (s.receiveRequest n r).ledger = s.ledger := by
  unfold receiveRequest
  dsimp only
  split
  · rfl
  · split
    · split <;> rfl
    · rfl

theorem ledger_receiveByte (s : State) (n : Fin 4) (b : Byte) : (s.receiveByte n b).ledger = s.ledger := by
  unfold receiveByte
  split
  · split <;> rfl
  · dsimp only
    split_ifs
    · rfl
    · rfl
    · rfl
    · split
      · rw [ledger_receiveRequest]; rfl
      · rfl

end State

/-! ### Bodies of commands -/

/-- A body that leaves the ledger as it was. -/
abbrev SparesLedger (body : List Byte → State → Verdict (State × List Byte)) : Prop :=
  ∀ (p : List Byte) (s : State), s.TablesSorted → Yields (body p s) (fun x => s.LedgerAs x.1)

theorem ReadsOnly.sparesLedger {body : List Byte → State → Verdict (State × List Byte)} (h : ReadsOnly body) :
    SparesLedger body := fun p s hs => (h p s).mono fun x (hx : x.1 = s) => hx.symm ▸ .refl hs

/-- The tables' order is that which the body leaves with the cards. -/
theorem SparesCards.sparesLedger {body : List Byte → State → Verdict (State × List Byte)} (h : SparesCards body)
    (hl : ∀ p s, Yields (body p s) (fun x => x.1.ledger = s.ledger)) : SparesLedger body :=
  fun p s hs x hx => ⟨(h p s hs x hx).sorted, hl p s x hx⟩

theorem setLaneDecks_sparesLedger : SparesLedger setLaneDecks := setLaneDecks_sparesCards.sparesLedger fun p s => by
  simp only [setLaneDecks, yields_bind, yields_need, yields_check, yields_pure]
  intros; rfl

theorem setOverride_sparesLedger : SparesLedger setOverride := setOverride_sparesCards.sparesLedger fun p s => by
  simp only [setOverride, yields_bind, yields_need, yields_check, yields_pure]
  intros; rfl

theorem clearOverride_sparesLedger : SparesLedger clearOverride := clearOverride_sparesCards.sparesLedger fun p s => by
  simp only [clearOverride, yields_bind, yields_need, yields_pure]
  intros; rfl

theorem setOutlet_sparesLedger : SparesLedger setOutlet := setOutlet_sparesCards.sparesLedger fun p s => by
  simp only [setOutlet, yields_bind, yields_need, yields_pure]
  intros; rfl

theorem setGangway_sparesLedger : SparesLedger setGangway := setGangway_sparesCards.sparesLedger fun p s => by
  simp only [setGangway, yields_bind, yields_need, yields_pure]
  intros; rfl

theorem setTallyWatch_sparesLedger : SparesLedger setTallyWatch := setTallyWatch_sparesCards.sparesLedger fun p s => by
  simp only [setTallyWatch, yields_bind, yields_need, yields_ite, yields_pure]
  intros
  refine ⟨fun _ => ?_, fun _ => rfl⟩
  unfold State.armWatch
  split <;> rfl

theorem setAlarmInput_sparesLedger : SparesLedger setAlarmInput := setAlarmInput_sparesCards.sparesLedger fun p s => by
  simp only [setAlarmInput, yields_bind, yields_need, yields_pure]
  intros; rfl

theorem setWatchGroups_sparesLedger : SparesLedger setWatchGroups :=
  setWatchGroups_sparesCards.sparesLedger fun _ _ => yields_ok.2 rfl
theorem setLockdown_sparesLedger : SparesLedger setLockdown :=
  setLockdown_sparesCards.sparesLedger fun _ _ => yields_ok.2 rfl
theorem stopCharging_sparesLedger : SparesLedger stopCharging :=
  stopCharging_sparesCards.sparesLedger fun _ _ => yields_ok.2 rfl
theorem haltField_sparesLedger : SparesLedger haltField :=
  haltField_sparesCards.sparesLedger fun _ _ => yields_ok.2 rfl
theorem resumeField_sparesLedger : SparesLedger resumeField :=
  resumeField_sparesCards.sparesLedger fun _ _ => yields_ok.2 rfl

theorem clearLockdown_sparesLedger : SparesLedger clearLockdown := clearLockdown_sparesCards.sparesLedger fun p s => by
  simp only [clearLockdown, yields_bind, yields_pure]
  exact fun _ _ => rfl

theorem resumeCharging_sparesLedger : SparesLedger resumeCharging :=
  resumeCharging_sparesCards.sparesLedger fun p s => by
    simp only [resumeCharging, yields_bind, yields_pure]
    exact fun _ _ => rfl

theorem addPost_sparesLedger : SparesLedger addPost := addPost_sparesCards.sparesLedger fun p s => by
  simp only [addPost, yields_bind, yields_need, yields_check, yields_pure]
  intros; rfl

theorem removePost_sparesLedger : SparesLedger removePost := removePost_sparesCards.sparesLedger fun p s => by
  simp only [removePost, yields_bind, yields_need, yields_pure]
  intros; rfl

theorem setNotices_sparesLedger : SparesLedger setNotices := setNotices_sparesCards.sparesLedger fun p s => by
  simp only [setNotices, yields_bind, yields_need, yields_pure]
  intros; rfl

theorem clearNotices_sparesLedger : SparesLedger clearNotices := clearNotices_sparesCards.sparesLedger fun p s => by
  simp only [clearNotices, yields_ok]
  split <;> rfl

/-! ### Cards -/

namespace State

variable {s : State}

theorem LedgerAs.withCards {x : CardTable} (h : s.TablesSorted) (hw : Table.wf x.slots) : s.LedgerAs (s.withCards x) :=
  ⟨⟨h.1, hw, h.2.2⟩, rfl⟩

theorem LedgerAs.putCard (h : s.TablesSorted) (k : Nat) (c : Card) : s.LedgerAs (s.putCard k c) :=
  .withCards h (Table.put_wf h.2.1 k _)

theorem LedgerAs.suspendCards (h : s.TablesSorted) (serials : List Nat) : s.LedgerAs (s.suspendCards serials) := by
  refine List.foldlRecOn (motive := s.LedgerAs) serials _ (.refl h) fun t ht n _ => ?_
  split
  · exact ⟨(LedgerAs.putCard ht.1 _ _).1, ht.2⟩
  · exact ht

end State

theorem reissueCard_sparesLedger : SparesLedger reissueCard := fun p s hs => by
  simp only [reissueCard, yields_bind, yields_need, yields_check, yields_pure]
  exact fun _ _ _ => .putCard hs _ _

theorem suspendCard_sparesLedger : SparesLedger suspendCard := fun p s hs => by
  simp only [suspendCard, yields_bind, yields_need, yields_pure]
  exact fun _ _ => .putCard hs _ _

theorem restoreCard_sparesLedger : SparesLedger restoreCard := fun p s hs => by
  simp only [restoreCard, yields_bind, yields_need, yields_check, yields_pure]
  exact fun _ _ _ => .putCard hs _ _

end Sys2Proof.Machine
end

section
/-! The changes of the ledger that the commands and events are made of, and the rule that a property which every one of
these changes keeps is kept by every step. -/

namespace Sys2Proof.Machine

/-! ### The changes of single records -/

/-- The ranges of R147. -/
abbrev Clock.InRange (c : Clock) : Prop :=
  c.voyage ≤ Config.lastVoyageSecond ∧ c.second ≤ 59 ∧ c.minute ≤ 1439 ∧ c.day ≤ 999 ∧ c.rollover ≤ 1439
    ∧ c.lastRollover ≤ c.voyage ∧ c.phase < Config.secondPeriods

/-- The clock `d` may follow the clock `c`: it keeps the ranges, and the voyage second does not fall. -/
abbrev Clock.Advances (c d : Clock) : Prop := c.voyage ≤ d.voyage ∧ (c.InRange → d.InRange)

/-- The record `h` is `g` but for its cards, its account and its last pass, which are written at the clock `c`. -/
structure Guest.Books (c : Clock) (g h : Guest) : Prop where
  reference : h.reference = g.reference
  cabin     : h.cabin = g.cabin
  folio     : h.folio = g.folio
  dayLimit  : h.dayLimit = g.dayLimit
  station   : h.station = g.station
  presence  : h.presence = g.presence
  epoch     : h.epoch = g.epoch
  lastPass  : h.lastPass = g.lastPass ∨ h.lastPass = some c.voyage
  spendDay  : h.spendDay = g.spendDay ∨ h.spendDay = c.day
  spent     : h.spent = g.spent ∨ h.spent ≤ 12000000

/-- The folio `y` is `x` but for its account and its state; a folio without members is not newly CLOSED. -/
structure Folio.Books (x y : Folio) : Prop where
  number  : y.number = x.number
  members : y.members = x.members
  closed  : y.state = .closed → x.state = .closed ∨ x.members ≠ 0

/-- The cabin `d` has the occupants of `c`; privacy is not newly set without them. -/
structure Cabin.Books (c d : Cabin) : Prop where
  occupants : d.occupants = c.occupants
  privacy   : d.privacy = true → c.privacy = true ∨ c.occupants ≠ []

theorem Guest.Books.withAccount (c : Clock) (g : Guest) (cards : List Nat) (held : Nat) :
    g.Books c { g with cards := cards, held := held } :=
  ⟨rfl, rfl, rfl, rfl, rfl, rfl, rfl, .inl rfl, .inl rfl, .inl rfl⟩

theorem Guest.Books.spend (c : Clock) (g : Guest) (t : Nat) : g.Books c (g.spend c.day t) :=
  ⟨rfl, rfl, rfl, rfl, rfl, rfl, rfl, .inl rfl, .inr rfl, .inr (Nat.min_le_right _ _)⟩

theorem Guest.Books.pass (c : Clock) (g : Guest) : g.Books c { g with lastPass := some c.voyage } :=
  ⟨rfl, rfl, rfl, rfl, rfl, rfl, rfl, .inr rfl, .inl rfl, .inl rfl⟩

theorem Folio.Books.withAccount (x : Folio) (balance : Int) (held : Nat) (holds : List Nat) :
    x.Books { x with balance := balance, held := held, holds := holds } := ⟨rfl, rfl, .inl⟩

/-- The record `g` that ENROL_GUEST lists at index `k` has passed the tests of R41 and has the values of R42. -/
structure State.Enrols (s : State) (k : Nat) (g : Guest) : Prop where
  part      : s.store.part ≠ .blank
  free      : s.guestAt k = none
  presence  : g.presence = .expected
  epoch     : g.epoch = 0
  lastPass  : g.lastPass = none
  spendDay  : g.spendDay = s.clock.day
  spent     : g.spent = 0
  reference : g.reference ≠ 0 ∧ s.findReference g.reference = none
  dayLimit  : ∀ l ∈ g.dayLimit, l ≤ Config.greatestLimit
  cabin     : ∀ c ∈ g.cabin, s.cabinHasRoom c
  folio     : ∀ f ∈ g.folio, s.folioOpen f

/-- The record `h` that AMEND_GUEST writes in the place of `g` has passed the tests of R43. -/
structure State.Amends (s : State) (k : Nat) (g h : Guest) : Prop where
  found     : s.guestAt k = some g
  cards     : h.cards = g.cards
  presence  : h.presence = g.presence
  epoch     : h.epoch = g.epoch
  lastPass  : h.lastPass = g.lastPass
  spendDay  : h.spendDay = g.spendDay
  spent     : h.spent = g.spent
  reference : h.reference ≠ g.reference → h.reference ≠ 0 ∧ s.findReference h.reference = none
  dayLimit  : h.dayLimit = g.dayLimit ∨ ∀ l ∈ h.dayLimit, l ≤ Config.greatestLimit
  cabin     : h.cabin ≠ g.cabin → ∀ c ∈ h.cabin, s.cabinHasRoom c
  folio     : h.folio ≠ g.folio → ∀ f ∈ h.folio, s.folioOpen f

/-- RETIRE_GUEST after the cards have been retired (R50). -/
def State.strikeOff (s : State) (k : Nat) (g : Guest) (before : Tally) : State :=
  let t := (s.quitCabin g.cabin k).quitFolio g.folio
  let t := (t.withTally (t.tally.mapTotal g.presence (· - 1))).evaluateWatches before
  t.withRoster { guests := Table.erase t.roster.guests k, enrolled := t.roster.enrolled - 1 }

theorem State.retire_strikeOff (s : State) (k : Nat) (g : Guest) :
    s.retire k g = (s.retireCards g.cards).strikeOff k g s.tally := rfl

/-- SET_STATIONS in the tally unit (R140). -/
def State.setStations (s : State) (w : BitVec 16) : State :=
  let t := s.withTally { s.tally with stations := w }
  if s.mode.muster then t.evaluateCompletion else t

/-- A property that every change of the ledger keeps, each where its command or event makes it. -/
structure Kept (P : State → Prop) : Prop where
  sorted      : ∀ {s : State}, P s → s.TablesSorted
  reset       : P State.reset
  quiet       : ∀ {s t : State}, P s → s.LedgerAs t → P t
  part        : ∀ {s : State} {x : PartState}, P s → x ≠ .blank → P (s.withStore { s.store with part := x })
  scrub       : ∀ {s : State} {x : Store}, P s → x.part ≠ .blank →
    s.store.part = .blank ∨ s.roster.guests = [] ∨ s.mode.muster = false → P (s.withStore x).scrub
  vacate      : ∀ {s : State}, P s → s.roster.guests = [] → P (s.withCabin { s.cabin with cabins := [] })
  cabin       : ∀ {s : State} {i : Nat} {c : Cabin}, P s → (s.cabinAt i).Books c → P (s.putCabin i c)
  guest       : ∀ {s : State} {k : Nat} {g h : Guest}, P s → s.guestAt k = some g → g.Books s.clock h →
    P (s.putGuest k h)
  folio       : ∀ {s : State} {k : Nat} {x y : Folio}, P s → s.folioAt k = some x → x.Books y → P (s.putFolio k y)
  openFolio   : ∀ {s : State} {k number credit : Nat}, P s → s.folioAt k = none → s.findNumber number = none →
    P (s.putFolio k (Folio.fresh number credit))
  freeFolio   : ∀ {s : State} {k : Nat} {x : Folio}, P s → s.folioAt k = some x → x.members = 0 → P (s.freeFolio k)
  currencies  : ∀ {s : State} {v : Vector Currency 8}, P s → (s.ShipCurrencyFixed → cell v 0 = ⟨true, 10000, none⟩) →
    P (s.withFolio { s.folio with currencies := v })
  clock       : ∀ {s : State} {c : Clock}, P s → s.clock.Advances c → P (s.withClock c)
  startMuster : ∀ {s : State}, P s → s.mode.muster = false → P s.startMuster
  endMuster   : ∀ {s : State}, P s → P s.endMuster
  stations    : ∀ {s : State} (w : BitVec 16), P s → P (s.setStations w)
  move        : ∀ {s : State} {k : Nat} {g : Guest} {q : Presence}, P s → s.guestAt k = some g → q ≠ g.presence →
    P (s.movePresence k g q)
  muster      : ∀ {s : State} {k : Nat} {g : Guest}, P s → s.guestAt k = some g → s.mode.muster = true →
    g.presence = .aboard → g.epoch ≠ s.tally.epoch → P (s.musterGuest k g)
  enrol       : ∀ {s : State} {k : Nat} {g : Guest}, P s → s.Enrols k g → P (s.enrol k g)
  amend       : ∀ {s : State} {k : Nat} {g h : Guest}, P s → s.Amends k g h → P (s.amend k g h)
  strikeOff   : ∀ {s : State} {k : Nat} {g h : Guest} (b : Tally), P s → s.guestAt k = some h → h.cabin = g.cabin →
    h.folio = g.folio → h.presence = g.presence → g.presence ≠ .aboard → P (s.strikeOff k g b)

namespace Kept

variable {P : State → Prop} (K : Kept P) {s : State} (h : P s)

include K h

/-! ### What lies beside the ledger -/

theorem beside {t : State} (hs : s.TablesSorted → t.TablesSorted) (hl : t.ledger = s.ledger) : P t :=
  K.quiet h ⟨hs (K.sorted h), hl⟩

theorem tables {t : State} (ht : t.tables = s.tables) (hl : t.ledger = s.ledger) : P t :=
  K.quiet h (.of_tables (K.sorted h) ht hl)

/-! ### Charges and holds -/

theorem changeFolio (k : Nat) {change : Folio → Folio} (hc : ∀ x : Folio, x.Books (change x)) :
    P (match s.folioAt k with | some f => s.putFolio k (change f) | none => s) := by
  split
  · exact K.folio h ‹_› (hc _)
  · exact h

theorem changeGuest (k : Nat) {change : Guest → Guest} (hc : ∀ g : Guest, g.Books s.clock (change g)) :
    P (match s.guestAt k with | some g => s.putGuest k (change g) | none => s) := by
  split
  · exact K.guest h ‹_› (hc _)
  · exact h

theorem postTotal (folio guest t : Nat) : P (s.postTotal folio guest t) :=
  K.changeGuest (K.changeFolio h folio fun x => Folio.Books.withAccount x _ _ _) guest fun g => .spend _ g t

theorem putHold (k : Nat) (x : HoldSlot) : P (s.putHold k x) := by
  obtain ⟨hg, hk, hf, hc, ho, hh, hp⟩ := K.sorted h
  exact K.quiet h ⟨⟨hg, hk, hf, hc, ho, Table.putD_wf hh k x _, hp⟩, rfl⟩

theorem createHold (k : Nat) (x : Hold) : P (s.createHold k x) := by
  have hslot := K.putHold h k ⟨.active x, (s.holdAt k).generation + 1⟩
  have hlist := K.beside (t := (s.putHold k ⟨.active x, (s.holdAt k).generation + 1⟩).withHold
    { (s.putHold k ⟨.active x, (s.holdAt k).generation + 1⟩).hold with lapsed := s.hold.lapsed.erase k }) hslot id rfl
  exact K.changeGuest (K.changeFolio hlist x.folio fun f => Folio.Books.withAccount f _ _ _) x.guest
    fun g => .withAccount _ g _ _

theorem releaseHeld (k : Nat) (x : Hold) : P (s.releaseHeld k x) :=
  K.changeGuest (K.changeFolio h x.folio fun f => Folio.Books.withAccount f _ _ _) x.guest fun g => .withAccount _ g _ _

theorem endHold (k : Nat) (x : Hold) : P (s.endHold k x) := K.putHold (K.releaseHeld h k x) k _

theorem lapseHold (k : Nat) (x : Hold) : P (s.lapseHold k x) :=
  have ht := K.putHold (K.releaseHeld h k x) k ⟨.lapsed x, (s.holdAt k).generation⟩
  K.beside ht id rfl

theorem lapseExpiring (v : Nat) : P (s.lapseExpiring v) :=
  List.foldlRecOn (motive := P) (s.expiring v) _ h fun _ ht e _ => K.lapseHold ht e.1 e.2

theorem releaseSlot (k : Nat) : P (s.releaseSlot k) := by
  unfold State.releaseSlot
  split
  · exact K.endHold h k _
  · exact h
  · exact h

theorem releaseHolds (holds : List Nat) : P (s.releaseHolds holds) :=
  List.foldlRecOn (motive := P) holds _ h fun _ ht k _ => K.releaseSlot ht k

/-! ### The clock -/

/-- The ship's currency has nothing staged that a rollover could install (R82, R86). -/
theorem installStaged : P s.installStaged := by
  have hc : P (s.withFolio { s.folio with currencies := s.folio.currencies.map Currency.install }) := by
    refine K.currencies h fun hfix => ?_
    have hcell : cell (s.folio.currencies.map Currency.install) 0 = (cell s.folio.currencies 0).install := by
      simp [cell]
    rw [hcell, hfix]
    rfl
  obtain ⟨hg, hk, hf, hc', -, hrest⟩ := K.sorted hc
  exact K.quiet hc ⟨⟨hg, hk, hf, hc', State.wf_installOutlets _, hrest⟩, rfl⟩

theorem attemptRollover : P s.attemptRollover := by
  unfold State.attemptRollover
  split
  · unfold State.rollDay
    dsimp only
    have hclock : P (s.withClock { s.clock with
        day := if s.clock.day = 999 then 999 else s.clock.day + 1, lastRollover := s.clock.voyage }) := by
      refine K.clock h ⟨Nat.le_refl _, ?_⟩
      rintro ⟨hv, hsec, hmin, hday, hroll, hlast, hphase⟩
      refine ⟨hv, hsec, hmin, ?_, hroll, Nat.le_refl _, hphase⟩
      dsimp only
      split <;> omega
    have hinstall := K.installStaged hclock
    exact K.tables hinstall rfl rfl
  · exact h

theorem tickMinute : P s.tickMinute := by
  have hnext : s.clock.minute ≤ 1439 → (if s.clock.minute = 1439 then 0 else s.clock.minute + 1) ≤ 1439 := by
    intro
    split <;> omega
  unfold State.tickMinute
  dsimp only
  generalize (if s.clock.minute = 1439 then 0 else s.clock.minute + 1) = minute at *
  have hclock : P (s.withClock { s.clock with minute := minute }) :=
    K.clock h ⟨Nat.le_refl _, fun ⟨hv, hsec, hmin, hrest⟩ => ⟨hv, hsec, hnext hmin, hrest⟩⟩
  split
  · exact K.attemptRollover hclock
  · exact hclock

theorem arriveSecond : P s.arriveSecond := by
  have hle : s.clock.voyage ≤ nextVoyage s.clock.voyage := by
    unfold nextVoyage
    split <;> omega
  have hlast : s.clock.voyage ≤ Config.lastVoyageSecond → nextVoyage s.clock.voyage ≤ Config.lastVoyageSecond := by
    intro
    unfold nextVoyage
    split <;> omega
  have hnext : s.clock.second ≤ 59 → (if s.clock.second + 1 = 60 then 0 else s.clock.second + 1) ≤ 59 := by
    intro
    split <;> omega
  unfold State.arriveSecond
  dsimp only
  generalize (if s.clock.second + 1 = 60 then 0 else s.clock.second + 1) = second at *
  have hclock : P (s.withClock { s.clock with voyage := nextVoyage s.clock.voyage, second := second, phase := 0 }) :=
    K.clock h ⟨hle, fun ⟨hv, hsec, hmin, hday, hroll, hroll', _⟩ =>
      ⟨hlast hv, hnext hsec, hmin, hday, hroll, Nat.le_trans hroll' hle, show 0 < Config.secondPeriods by decide⟩⟩
  have hlapse := K.lapseExpiring hclock (nextVoyage s.clock.voyage)
  split
  · exact K.tickMinute hlapse
  · exact hlapse

/-- An event that is a second arrival when its condition holds. -/
theorem arrival (p : Prop) [Decidable p] : P (if p then s.arriveSecond else s) := by
  split
  · exact K.arriveSecond h
  · exact h

theorem tickClock : P s.tickClock := by
  unfold State.tickClock
  split
  · split
    · rename_i hlt
      exact K.clock h ⟨Nat.le_refl _, fun ⟨hv, hsec, hmin, hday, hroll, hlast, _⟩ =>
        ⟨hv, hsec, hmin, hday, hroll, hlast, hlt⟩⟩
    · exact K.arriveSecond h
  · exact h

/-! ### Alarm inputs and the time base -/

theorem assertInput (n : Fin 4) : P (s.assertInput n) := by
  have hp : P (s.putInput n ((s.inputAt n).qualified true)) := K.tables h rfl rfl
  have hrole : P ((s.putInput n ((s.inputAt n).qualified true)).requestMode (s.inputAt n).role) := by
    unfold State.requestMode
    split
    · split
      · exact hp
      · exact K.startMuster hp (by simp_all)
    · exact K.tables hp rfl rfl
    · exact K.tables hp rfl rfl
    · exact hp
  exact K.tables hrole rfl rfl

theorem tickInput (n : Fin 4) : P (s.tickInput n) := by
  have hput : ∀ x, P (s.putInput n x) := fun x => K.tables h rfl rfl
  unfold State.tickInput
  split
  · exact h
  · split
    · exact hput _
    · unfold State.qualifyInput
      split
      · exact K.assertInput h n
      · split <;> exact hput _

theorem changeScrub (x : Option Nat) : P (s.withStore { s.store with scrub := x }) :=
  K.beside h id rfl

theorem completeScrub : P s.completeScrub := by
  have hscrub := K.changeScrub h none
  have hlink : ∀ (link : Link) (n : NoticeUnit), P { s.withStore { s.store with scrub := none } with
      link := link, notice := n } := fun _ _ => K.tables hscrub rfl rfl
  unfold State.completeScrub
  dsimp only
  split
  · exact hlink _ _
  · exact hlink _ _
  · exact hscrub
  · exact hscrub

theorem tick : P s.tick := by
  have hinputs : P ((List.finRange 4).foldl State.tickInput s.tickClock) :=
    List.foldlRecOn (motive := P) _ _ (K.tickClock h) fun _ ht n _ => K.tickInput ht n
  unfold State.tick State.tickScrub
  split
  · exact hinputs
  · split
    · exact K.changeScrub hinputs _
    · exact K.completeScrub hinputs

/-! ### Cards of a guest -/

/-- A new card list of the guest that an index names, if it names one. -/
theorem changeCards {x : CardTable} (hx : Table.wf x.slots) (i : Nat) (change : List Nat → List Nat) :
    P (match (s.withCards x).guestAt i with
      | some g => (s.withCards x).putGuest i { g with cards := change g.cards } | none => s.withCards x) :=
  K.changeGuest (K.quiet h (.withCards (K.sorted h) hx)) i fun g => .withAccount _ g _ _

theorem placeCard (k : Nat) (c : Card) : P (s.placeCard k c) := by
  have hslots := Table.put_wf (K.sorted h).2.1 k (.inUse c)
  unfold State.placeCard
  dsimp only
  split
  · exact K.changeCards h hslots _ (fun l => l ++ [c.serial])
  · exact K.quiet h (.withCards (K.sorted h) hslots)
  · exact K.quiet h (.withCards (K.sorted h) hslots)

theorem retireCard (k : Nat) (c : Card) : P (s.retireCard k c) := by
  have hslots := Table.put_wf (K.sorted h).2.1 k CardSlot.retired
  unfold State.retireCard
  dsimp only
  split
  · exact K.changeCards h hslots _ (fun l => l.erase c.serial)
  · exact K.quiet h (.withCards (K.sorted h) hslots)
  · exact K.quiet h (.withCards (K.sorted h) hslots)

omit K h in
/-- Retiring a card changes no more than the card list of any guest. -/
theorem guestAt_retireCard (k : Nat) (c : Card) {i : Nat} {g : Guest} (hg : s.guestAt i = some g) :
    ∃ cards, (s.retireCard k c).guestAt i = some { g with cards := cards } := by
  have hsame : ∀ x : CardTable, ∃ cards, (s.withCards x).guestAt i = some { g with cards := cards } :=
    fun _ => ⟨g.cards, hg⟩
  unfold State.retireCard
  dsimp only
  split
  · rename_i j _
    split
    · rename_i g' hg'
      by_cases hij : i = j
      · subst hij
        obtain rfl := Option.some.inj (hg.symm.trans hg')
        exact ⟨_, Table.find_put_self _ _ _⟩
      · exact ⟨g.cards, (Table.find_put_ne _ hij _).trans hg⟩
    · exact hsame _
  · exact hsame _
  · exact hsame _

theorem retireCards (serials : List Nat) {k : Nat} {g : Guest} (hg : s.guestAt k = some g) :
    P (s.retireCards serials) ∧ ∃ cards, (s.retireCards serials).guestAt k = some { g with cards := cards } := by
  refine List.foldlRecOn (motive := fun t => P t ∧ ∃ cards, t.guestAt k = some { g with cards := cards }) serials _
    ⟨h, g.cards, hg⟩ fun t ht n _ => ?_
  obtain ⟨hP, cards, hcards⟩ := ht
  split
  · obtain ⟨cards', hcards'⟩ := guestAt_retireCard _ _ hcards
    exact ⟨K.retireCard hP _ _, cards', hcards'⟩
  · exact ⟨hP, cards, hcards⟩

theorem retire {k : Nat} {g : Guest} (hg : s.guestAt k = some g) (hp : g.presence ≠ .aboard) : P (s.retire k g) := by
  obtain ⟨hcards, _, hfound⟩ := K.retireCards h g.cards hg
  rw [State.retire_strikeOff]
  exact K.strikeOff s.tally hcards hfound rfl rfl rfl hp

/-! ### Presence -/

theorem evaluateWatches (b : Tally) : P (s.evaluateWatches b) := K.tables h (by simp) (by simp)

theorem correctPresence {k : Nat} {g : Guest} (hg : s.guestAt k = some g) (hp : g.presence ≠ .aboard) :
    P (s.correctPresence k g) :=
  K.tables (K.evaluateWatches (K.move h hg hp.symm) s.tally) rfl rfl

/-- A pass is the record of the time followed by the move. -/
theorem passGate {x : Passage} (hg : s.guestAt x.guestIndex = some x.guest) (hq : x.presence ≠ x.guest.presence) :
    P (s.passGate x) := by
  have hput := K.guest h hg (.pass s.clock x.guest)
  have hmove := K.move hput (q := x.presence) (Table.find_put_self _ _ _) hq
  have hsame : (s.putGuest x.guestIndex { x.guest with lastPass := some s.clock.voyage }).movePresence x.guestIndex
      { x.guest with lastPass := some s.clock.voyage } x.presence
      = s.movePresence x.guestIndex { x.guest with lastPass := some s.clock.voyage } x.presence := by
    unfold State.movePresence State.putGuest
    simp only [State.withRoster_roster, Table.put_put (K.sorted h).1]
    rfl
  rw [hsame] at hmove
  exact K.evaluateWatches (K.tables hmove (State.tables_markGroup _ _) (State.ledger_markGroup _ _)) _

omit K h in
theorem guestAt_correctPresence (k : Nat) (g : Guest) :
    (s.correctPresence k g).guestAt k = some { g with presence := .aboard } := by
  have hroster : (s.correctPresence k g).roster = (s.putGuest k { g with presence := .aboard }).roster := by
    simp only [State.correctPresence, State.movePresence]
    split <;> simp [State.raise]
  rw [State.guestAt, hroster]
  exact Table.find_put_self _ _ _

omit K h in
theorem correctPresence_mode (k : Nat) (g : Guest) : (s.correctPresence k g).mode = s.mode := by
  simp only [State.correctPresence, State.movePresence]
  split <;> simp [State.raise]

/-- A tap of a guest who is not DEPARTED, during a muster. -/
theorem musterTap {k : Nat} {g : Guest} (hg : s.guestAt k = some g) (hm : s.mode.muster = true)
    (hp : g.presence ≠ .departed) (n : Fin 16) : P (s.musterTap n k g).state := by
  unfold State.musterTap
  dsimp only
  rw [s.correctAtReader_eq k hp, Presence.needsCorrection_eq hp]
  by_cases ha : g.presence = .aboard
  · simp only [ha, ne_eq, not_true_eq_false, decide_false, Bool.false_eq_true, if_false]
    split
    · exact h
    · exact K.muster h hg hm ha ‹_›
  · have hc := K.correctPresence h hg ha
    simp only [ha, ne_eq, not_false_eq_true, decide_true, if_true]
    split
    · exact hc
    · rename_i he
      refine K.muster hc (guestAt_correctPresence k g) ?_ rfl ?_
      · rw [correctPresence_mode, hm]
      · rw [State.correctPresence_epoch]
        exact he

end Kept

end Sys2Proof.Machine
end

section
/-! A property that every change of the ledger keeps is kept by every command, every event and every step. -/

namespace Sys2Proof.Machine

/-! ### What the tests of the tally unit's decisions find -/

theorem tallyGuest_finds (card : Presentation) (s : State) :
    Yields (tallyGuest card s) (fun x => s.guestAt x.1 = some x.2 ∧ x.2.presence ≠ .departed) := by
  simp only [tallyGuest, yields_bind, yields_test, yields_pure]
  exact fun c _ => (guestOf_enrolled s c).mono fun _ hx hp => ⟨hx, hp⟩

theorem musterTests_finds (n : Fin 4) (r : Request) (s : State) : Yields (musterTests n r s) (fun x =>
    s.mode.muster = true ∧ s.guestAt x.2.1 = some x.2.2 ∧ x.2.2.presence ≠ .departed) := by
  simp only [musterTests, yields_bind, yields_test, yields_demand, yields_pure]
  exact fun _ _ _ hm => (tallyGuest_finds _ s).mono fun _ hx => ⟨hm, hx⟩

/-- A gate move is to another presence (R120). -/
theorem intendedMove_ne {d : Direction} {p q : Presence} (h : intendedMove d p = some q) : q ≠ p := by
  rintro rfl
  cases d <;> cases q <;> cases h

theorem gateTests_moves (n : Fin 4) (r : Request) (s : State) : Yields (gateTests n r s) (fun x =>
    s.guestAt x.guestIndex = some x.guest ∧ x.presence ≠ x.guest.presence) := by
  simp only [gateTests, yields_bind, yields_test, yields_demand]
  intro _ post _ _
  refine (tallyGuest_enrolled _ s).mono fun x hx _ => ?_
  split
  · exact yields_error
  · rename_i q hq
    split
    · exact yields_pure.2 ⟨hx, intendedMove_ne hq⟩
    · exact yields_error

/-- A body's success has the property. -/
abbrev YieldsKept (P : State → Prop) (x : Verdict (State × List Byte)) : Prop := Yields x (fun y => P y.1)

/-- A CONFIGURE command is admitted in BLANK and in SETUP (R2). -/
theorem configure_admits {p : PartState} (h : CommandClass.configure.refusal p = none) : p = .blank ∨ p = .setup := by
  cases p <;> simp_all [CommandClass.refusal]

namespace Kept

variable {P : State → Prop} (K : Kept P) {s : State} (h : P s) (p : List Byte)

include K h

/-! ### Bodies of commands -/

theorem lockVoyage : YieldsKept P (lockVoyage p s) := by
  simp only [Machine.lockVoyage, YieldsKept, yields_bind, yields_check, yields_pure]
  exact fun _ => K.part h (by decide)

theorem configureStore (hp : s.store.part = .blank ∨ s.store.part = .setup) : YieldsKept P (configureStore p s) := by
  simp only [Machine.configureStore, YieldsKept, yields_bind, yields_need, yields_check, yields_pure]
  intro hempty caps _
  refine K.scrub h (by simp) (hp.imp_right fun hsetup => .inl ?_)
  have := hempty hsetup
  simp only [State.recordsEmpty, Bool.and_eq_true, List.isEmpty_iff] at this
  exact this.1.1

theorem endVoyage : YieldsKept P (endVoyage p s) := by
  simp only [Machine.endVoyage, YieldsKept, yields_bind, yields_check, yields_pure]
  exact fun _ _ _ hm => K.scrub h (by simp) (.inr (.inr hm))

theorem setDeck : YieldsKept P (setDeck p s) := by
  simp only [Machine.setDeck, YieldsKept, yields_bind, yields_need, yields_check, yields_pure]
  intro k _ _ hempty _ _ _
  have hstore : P (s.withStore { s.store with deckMap := putCell s.store.deckMap k (readSetDeck p).value }) :=
    K.beside h id rfl
  exact K.vacate hstore (List.isEmpty_iff.1 hempty)

theorem issueCard : YieldsKept P (issueCard p s) := by
  simp only [Machine.issueCard, YieldsKept, yields_bind, yields_need, yields_check, yields_pure]
  intro _ _ _ _ _ _ _ _ _ _
  exact K.placeCard h _ _

theorem retireCardCommand : YieldsKept P (Machine.retireCard p s) := by
  simp only [Machine.retireCard, YieldsKept, yields_bind, yields_need, yields_pure]
  exact fun _ _ => K.retireCard h _ _

theorem enrolGuest (hp : s.store.part ≠ .blank) : YieldsKept P (enrolGuest p s) := by
  simp only [Machine.enrolGuest, YieldsKept, yields_bind, yields_need, yields_check, yields_pure]
  intro band _ may _ watch _ code _ folio _ limit _ station _ ⟨hne, _⟩ cabin _ hfree _ hroom hopen
  exact K.enrol h
    { part := hp, free := (Table.lowestFree_spec (K.sorted h).1 0 fun _ _ => Nat.zero_le _).1, presence := rfl
      epoch := rfl, lastPass := rfl, spendDay := rfl, spent := rfl, reference := ⟨hne, hfree⟩, cabin := hroom
      folio := hopen
      dayLimit := fun l hl => by
        obtain ⟨x, -, rfl⟩ := Option.map_eq_some_iff.1 hl
        exact Nat.min_le_right _ _ }

theorem amendGuest : YieldsKept P (amendGuest p s) := by
  simp only [Machine.amendGuest, YieldsKept, yields_bind, yields_need, yields_check, yields_pure]
  intro g hg reference _ code _ folio _ band _ may _ limit _ place _ watch _ station _ ⟨hne, _⟩ cabin _ hfree _ hopen
    hroom
  refine K.amend h
    { found := State.guestAt_of_namedGuest hg, cards := rfl, presence := rfl, epoch := rfl, lastPass := rfl
      spendDay := rfl, spent := rfl, reference := fun hr => ⟨?_, hfree hr⟩, dayLimit := ?_, cabin := hroom
      folio := hopen }
  · cases reference with
    | none => exact absurd rfl hr
    | some r => exact hne r rfl
  · rcases limit with _ | _ | l
    · exact .inl rfl
    · exact .inr fun _ hl => by cases hl
    · exact .inr fun _ hl => Option.some.inj hl ▸ Nat.min_le_right _ _

theorem departGuest : YieldsKept P (departGuest p s) := by
  simp only [Machine.departGuest, YieldsKept, yields_bind, yields_need, yields_check, yields_pure]
  intro g hg _ hp
  have hmove := K.evaluateWatches (K.move h (State.guestAt_of_namedGuest hg) hp.symm) s.tally
  exact K.quiet hmove (.suspendCards (K.sorted hmove) _)

theorem retireGuest : YieldsKept P (retireGuest p s) := by
  simp only [Machine.retireGuest, YieldsKept, yields_bind, yields_need, yields_check, yields_pure]
  exact fun g hg hp _ => K.retire h (State.guestAt_of_namedGuest hg) hp

/-- SET_CABIN clears privacy or leaves it (R61). -/
theorem setCabin : YieldsKept P (setCabin p s) := by
  simp only [Machine.setCabin, YieldsKept, yields_bind, yields_need, yields_check, yields_pure]
  intro _ _ privacy hprivacy _ _ _ i _
  refine K.cabin h ⟨rfl, fun hset => .inl ?_⟩
  have hmem : privacy ∈ privacySettings := List.mem_of_getElem? hprivacy
  simp only [privacySettings, List.mem_cons, List.not_mem_nil, or_false] at hmem
  rcases hmem with rfl | rfl
  · exact hset
  · cases hset

theorem openFolioCommand : YieldsKept P (Machine.openFolio p s) := by
  simp only [Machine.openFolio, YieldsKept, yields_bind, yields_check, yields_pure]
  exact fun _ hnew _ => K.openFolio h (Table.lowestFree_spec (K.sorted h).2.2.1 0 fun _ _ => Nat.zero_le _).1 hnew

/-- No state action closes a folio (R78). -/
theorem amendFolio : YieldsKept P (amendFolio p s) := by
  simp only [Machine.amendFolio, YieldsKept, yields_bind, yields_need, yields_check, yields_pure]
  intro _ _ action _ f hf hopen
  refine K.folio h (State.folioAt_of_namedFolio hf) ⟨rfl, rfl, fun hclosed => .inl ?_⟩
  dsimp only at hclosed
  unfold FolioAction.apply at hclosed
  split at hclosed
  · cases hclosed
  · cases hclosed
  · exact hclosed

theorem postPayment : YieldsKept P (postPayment p s) := by
  simp only [Machine.postPayment, YieldsKept, yields_bind, yields_check, yields_pure]
  exact (State.postable_named p s).mono fun f hf _ =>
    K.folio h (State.folioAt_of_namedFolio hf) (.withAccount f _ _ _)

theorem postCharge : YieldsKept P (postCharge p s) := by
  simp only [Machine.postCharge, YieldsKept, yields_bind, yields_check, yields_pure]
  exact (State.postable_named p s).mono fun f hf _ =>
    K.folio h (State.folioAt_of_namedFolio hf) (.withAccount f _ _ _)

theorem settleFolio : YieldsKept P (settleFolio p s) := by
  simp only [Machine.settleFolio, YieldsKept, yields_bind, yields_need, yields_check, yields_ite, yields_pure]
  intro f hf _ _ _
  have hfound := State.folioAt_of_namedFolio hf
  exact ⟨fun hm => K.freeFolio h hfound hm, fun hm => K.folio h hfound ⟨rfl, rfl, fun _ => .inr hm⟩⟩

/-- The ship's own entry takes no setting (R83). -/
theorem setCurrency : YieldsKept P (setCurrency p s) := by
  simp only [Machine.setCurrency, YieldsKept, yields_bind, yields_need, yields_check, yields_pure]
  intro k _ _ _ _ _ _ _ ⟨hk, _⟩
  refine K.currencies h fun hfix => ?_
  rw [cell_putCell_ne _ hk]
  exact hfix

theorem releaseFolioHolds : YieldsKept P (releaseFolioHolds p s) := by
  simp only [Machine.releaseFolioHolds, YieldsKept, yields_bind, yields_need, yields_pure]
  exact fun f _ => K.releaseHolds h f.holds

theorem setPresence : YieldsKept P (setPresence p s) := by
  simp only [Machine.setPresence, YieldsKept, yields_bind, yields_need, yields_check, yields_ite, yields_pure]
  intro q _ _ g hg _
  exact ⟨fun _ => h, fun hq => K.evaluateWatches (K.move h (State.guestAt_of_namedGuest hg) (Ne.symm hq)) _⟩

theorem startMusterCommand : YieldsKept P (startMusterCommand p s) := by
  unfold Machine.startMusterCommand
  split
  · exact yields_ok.2 h
  · exact yields_ok.2 (K.startMuster h (by simp_all))

theorem endMusterCommand : YieldsKept P (endMusterCommand p s) := by
  simp only [Machine.endMusterCommand, YieldsKept, yields_bind, yields_pure]
  intro _ _
  split
  · exact K.endMuster h
  · exact h

theorem setStations : YieldsKept P (setStations p s) := yields_ok.2 (K.stations (word16 p 0) h)

theorem setClock : YieldsKept P (setClock p s) := by
  simp only [Machine.setClock, YieldsKept, yields_bind, yields_check, yields_pure]
  rintro ⟨hday, hminute⟩
  refine K.clock h ⟨Nat.le_refl _, fun ⟨hv, _, _, _, hroll, _, hphase⟩ =>
    ⟨hv, Nat.zero_le _, hminute, hday, hroll, Nat.le_refl _, ?_⟩⟩
  unfold Clock.set
  dsimp only
  split
  · exact hphase
  · exact (Config.clockPhase s.draws).isLt

theorem shiftLocalTime : YieldsKept P (shiftLocalTime p s) := by
  simp only [Machine.shiftLocalTime, YieldsKept, yields_bind, yields_check, yields_pure]
  intro _ _
  have hminute : ∀ d, shiftedMinute s.clock.minute d ≤ 1439 := fun d => by
    unfold shiftedMinute
    omega
  have hclock : ∀ d, P (s.withClock { s.clock with minute := shiftedMinute s.clock.minute d }) := fun d =>
    K.clock h ⟨Nat.le_refl _, fun ⟨hv, hsec, _, hrest⟩ => ⟨hv, hsec, hminute d, hrest⟩⟩
  unfold State.shiftMinute
  dsimp only
  split
  · exact K.attemptRollover (hclock _)
  · exact hclock _

theorem setRolloverMinute : YieldsKept P (setRolloverMinute p s) := by
  simp only [Machine.setRolloverMinute, YieldsKept, yields_bind, yields_check, yields_pure]
  exact fun hroll => K.clock h ⟨Nat.le_refl _, fun ⟨hv, hsec, hmin, hday, _, hrest⟩ =>
    ⟨hv, hsec, hmin, hday, hroll, hrest⟩⟩

omit p

/-! ### Decisions -/

theorem admitOccupant (i k : Nat) : Yields (s.admitOccupant i k) (fun x => P x.state) := by
  unfold State.admitOccupant
  split
  · exact yields_error
  · rename_i g hg
    split
    · split
      · exact yields_error
      · exact yields_ok.2 h
      · exact yields_ok.2 (K.correctPresence h hg (by simp [*]))
      · exact yields_ok.2 (K.correctPresence h hg (by simp [*]))
    · exact yields_error

theorem admitCard (deck i : Nat) (c : Resolution) : Yields (s.admitCard deck i c) (fun x => P x.state) := by
  unfold State.admitCard
  split
  · exact yields_ok.2 h
  · simp only [yields_bind, yields_test, yields_ite]
    refine fun _ _ _ => ⟨fun _ => yields_ok.2 h, fun _ => ?_⟩
    simp only [State.admitByClass, yields_bind, yields_test]
    intro _
    split
    · exact K.admitOccupant h i _
    · simp only [State.admitService, yields_bind, yields_test, yields_pure]
      exact fun _ _ _ => h
    · exact yields_ok.2 h

theorem decideEntry (n : Fin 4) (r : Request) : P (decideEntry n r s).state := by
  refine decided_keeps h ?_
  simp only [yields_bind, yields_test]
  exact fun _ _ _ c _ => K.admitCard h _ _ c

theorem decidePrivacy (n : Fin 4) (r : Request) : P (decidePrivacy n r s).state := by
  refine decided_keeps h ?_
  simp only [privacyTests, yields_bind, yields_test, yields_pure]
  exact fun _ place _ hocc => K.cabin h ⟨rfl, fun _ => .inr hocc⟩

theorem decideCharge (n : Fin 4) (r : Request) : P (decideCharge n r s).state := by
  refine decided_keeps h ?_
  simp only [yields_bind, yields_pure]
  exact fun _ _ => K.postTotal h _ _ _

omit K in
theorem decideBalance (n : Fin 4) (r : Request) : P (decideBalance n r s).state := by
  refine decided_keeps h ?_
  simp only [yields_bind, yields_pure]
  exact fun _ _ => h

theorem decideAuthorise (n : Fin 4) (r : Request) : P (decideAuthorise n r s).state := by
  refine decided_keeps h ?_
  simp only [yields_bind, yields_pure]
  exact fun _ _ => K.createHold h _ _

theorem decideComplete (n : Fin 4) (r : Request) : P (decideComplete n r s).state := by
  refine decided_keeps h ?_
  simp only [yields_bind, yields_pure]
  exact fun _ _ => K.postTotal (K.endHold h _ _) _ _ _

theorem decideVoid (n : Fin 4) (r : Request) : P (decideVoid n r s).state := by
  refine decided_keeps h ?_
  simp only [yields_bind, yields_pure]
  exact fun _ _ => K.endHold h _ _

theorem decideGate (n : Fin 4) (r : Request) : P (decideGate n r s).state := by
  refine decided_keeps h ?_
  simp only [yields_bind, yields_pure]
  exact (gateTests_moves n r s).mono fun x ⟨hg, hq⟩ => K.passGate h hg hq

theorem decideMuster (n : Fin 4) (r : Request) : P (decideMuster n r s).state := by
  refine decided_keeps h ?_
  simp only [yields_bind, yields_pure]
  exact (musterTests_finds n r s).mono fun x ⟨hm, hg, hp⟩ => K.musterTap h hg hm hp _

/-! ### Commands, takes and starts -/

theorem warmStart : P s.warmStart := by
  have hstop : P (s.withClock { s.clock with running := false }) := K.clock h ⟨Nat.le_refl _, id⟩
  exact K.beside hstop id rfl

omit h in
theorem coldStart (s : State) : P s.coldStart := K.beside K.reset id rfl

omit h in
theorem linkFree : LinkFree P := fun _ _ _ _ h => K.tables h rfl rfl

/-- A command whose body has the property. -/
theorem ofBody {c : Command} {f : HostFrame} {body : List Byte → State → Verdict (State × List Byte)}
    (hb : YieldsKept P (body f.payload s)) : P (hostCommand c f body s) :=
  hostCommand_keeps K.linkFree h fun _ => hb

/-- A command whose body leaves the ledger as it was. -/
theorem ofSparing {c : Command} {body : List Byte → State → Verdict (State × List Byte)} (hb : SparesLedger body)
    (f : HostFrame) : P (hostCommand c f body s) :=
  K.ofBody h ((hb f.payload s (K.sorted h)).mono fun _ hx => K.quiet h hx)

/-- A take whose decision has the property. -/
theorem ofDecision {k : RequestKind} {n : Fin 4} {decide : Request → State → Decided}
    (hd : ∀ r, P (decide r s).state) : P (takeRequest k n decide s) :=
  takeRequest_keeps (P := P) (fun _ _ _ ht => K.tables ht rfl rfl) h hd

/-- Every command and event keeps the property. -/
theorem exec (c : Instr) : ∃ t, exec c s = .next t ∧ P t := by
  cases c with
  | coldStart => exact ⟨_, rfl, K.coldStart s⟩
  | warmStart => exact ⟨_, rfl, K.warmStart h⟩
  | scrubComplete =>
    refine ⟨_, rfl, ?_⟩
    split
    · exact K.completeScrub h
    · exact h
  | shortTransaction bytes => exact ⟨_, rfl, h⟩
  | unknownCommandFrame code f =>
    refine ⟨_, rfl, ?_⟩
    split
    · exact h
    · unfold unknownCommand
      split <;> exact K.tables h rfl rfl
  | status x => exact ⟨_, rfl, K.tables h rfl rfl⟩
  | fetch x =>
    refine ⟨_, rfl, ?_⟩
    unfold Machine.fetch
    split
    · dsimp only
      split <;> exact K.tables h rfl rfl
    · exact K.tables h rfl rfl
    · exact K.tables h rfl rfl
  | configureStore f =>
    exact ⟨_, rfl, scrubCommand_keeps K.linkFree h fun ha => K.configureStore h f.payload (configure_admits ha)⟩
  | readStore f => exact ⟨_, rfl, K.ofSparing h readStore_readsOnly.sparesLedger f⟩
  | lockVoyage f => exact ⟨_, rfl, K.ofBody h (K.lockVoyage h _)⟩
  | endVoyage f => exact ⟨_, rfl, scrubCommand_keeps K.linkFree h fun _ => K.endVoyage h f.payload⟩
  | setDeck f => exact ⟨_, rfl, K.ofBody h (K.setDeck h _)⟩
  | setLaneDecks f => exact ⟨_, rfl, K.ofSparing h setLaneDecks_sparesLedger f⟩
  | issueCard f => exact ⟨_, rfl, K.ofBody h (K.issueCard h _)⟩
  | reissueCard f => exact ⟨_, rfl, K.ofSparing h reissueCard_sparesLedger f⟩
  | suspendCard f => exact ⟨_, rfl, K.ofSparing h suspendCard_sparesLedger f⟩
  | restoreCard f => exact ⟨_, rfl, K.ofSparing h restoreCard_sparesLedger f⟩
  | retireCard f => exact ⟨_, rfl, K.ofBody h (K.retireCardCommand h _)⟩
  | readCard f => exact ⟨_, rfl, K.ofSparing h readCard_readsOnly.sparesLedger f⟩
  | enrolGuest f =>
    exact ⟨_, rfl, hostCommand_keeps K.linkFree h fun ha => K.enrolGuest h f.payload (record_admits ha)⟩
  | amendGuest f => exact ⟨_, rfl, K.ofBody h (K.amendGuest h _)⟩
  | departGuest f => exact ⟨_, rfl, K.ofBody h (K.departGuest h _)⟩
  | retireGuest f => exact ⟨_, rfl, K.ofBody h (K.retireGuest h _)⟩
  | lookupGuest f => exact ⟨_, rfl, K.ofSparing h lookupGuest_readsOnly.sparesLedger f⟩
  | readGuest f => exact ⟨_, rfl, K.ofSparing h readGuest_readsOnly.sparesLedger f⟩
  | findGuests f => exact ⟨_, rfl, K.ofSparing h findGuests_readsOnly.sparesLedger f⟩
  | setCabin f => exact ⟨_, rfl, K.ofBody h (K.setCabin h _)⟩
  | setOverride f => exact ⟨_, rfl, K.ofSparing h setOverride_sparesLedger f⟩
  | clearOverride f => exact ⟨_, rfl, K.ofSparing h clearOverride_sparesLedger f⟩
  | readOverrides f => exact ⟨_, rfl, K.ofSparing h readOverrides_readsOnly.sparesLedger f⟩
  | readCabin f => exact ⟨_, rfl, K.ofSparing h readCabin_readsOnly.sparesLedger f⟩
  | openFolio f => exact ⟨_, rfl, K.ofBody h (K.openFolioCommand h _)⟩
  | amendFolio f => exact ⟨_, rfl, K.ofBody h (K.amendFolio h _)⟩
  | postPayment f => exact ⟨_, rfl, K.ofBody h (K.postPayment h _)⟩
  | postCharge f => exact ⟨_, rfl, K.ofBody h (K.postCharge h _)⟩
  | settleFolio f => exact ⟨_, rfl, K.ofBody h (K.settleFolio h _)⟩
  | readFolio f => exact ⟨_, rfl, K.ofSparing h readFolio_readsOnly.sparesLedger f⟩
  | setCurrency f => exact ⟨_, rfl, K.ofBody h (K.setCurrency h _)⟩
  | readCurrencies f => exact ⟨_, rfl, K.ofSparing h readCurrencies_readsOnly.sparesLedger f⟩
  | setOutlet f => exact ⟨_, rfl, K.ofSparing h setOutlet_sparesLedger f⟩
  | readOutlet f => exact ⟨_, rfl, K.ofSparing h readOutlet_readsOnly.sparesLedger f⟩
  | releaseFolioHolds f => exact ⟨_, rfl, K.ofBody h (K.releaseFolioHolds h _)⟩
  | readHold f => exact ⟨_, rfl, K.ofSparing h readHold_readsOnly.sparesLedger f⟩
  | setGangway f => exact ⟨_, rfl, K.ofSparing h setGangway_sparesLedger f⟩
  | setPresence f => exact ⟨_, rfl, K.ofBody h (K.setPresence h _)⟩
  | setTallyWatch f => exact ⟨_, rfl, K.ofSparing h setTallyWatch_sparesLedger f⟩
  | setWatchGroups f => exact ⟨_, rfl, K.ofSparing h setWatchGroups_sparesLedger f⟩
  | readTallies f => exact ⟨_, rfl, K.ofSparing h readTallies_readsOnly.sparesLedger f⟩
  | setAlarmInput f => exact ⟨_, rfl, K.ofSparing h setAlarmInput_sparesLedger f⟩
  | startMuster f => exact ⟨_, rfl, K.ofBody h (K.startMusterCommand h _)⟩
  | setLockdown f => exact ⟨_, rfl, K.ofSparing h setLockdown_sparesLedger f⟩
  | stopCharging f => exact ⟨_, rfl, K.ofSparing h stopCharging_sparesLedger f⟩
  | endMuster f => exact ⟨_, rfl, K.ofBody h (K.endMusterCommand h _)⟩
  | clearLockdown f => exact ⟨_, rfl, K.ofSparing h clearLockdown_sparesLedger f⟩
  | resumeCharging f => exact ⟨_, rfl, K.ofSparing h resumeCharging_sparesLedger f⟩
  | setStations f => exact ⟨_, rfl, K.ofBody h (K.setStations h _)⟩
  | readModes f => exact ⟨_, rfl, K.ofSparing h readModes_readsOnly.sparesLedger f⟩
  | setClock f => exact ⟨_, rfl, K.ofBody h (K.setClock h _)⟩
  | shiftLocalTime f => exact ⟨_, rfl, K.ofBody h (K.shiftLocalTime h _)⟩
  | setRolloverMinute f => exact ⟨_, rfl, K.ofBody h (K.setRolloverMinute h _)⟩
  | readClock f => exact ⟨_, rfl, K.ofSparing h readClock_readsOnly.sparesLedger f⟩
  | haltField f => exact ⟨_, rfl, K.ofSparing h haltField_sparesLedger f⟩
  | resumeField f => exact ⟨_, rfl, K.ofSparing h resumeField_sparesLedger f⟩
  | addPost f => exact ⟨_, rfl, K.ofSparing h addPost_sparesLedger f⟩
  | removePost f => exact ⟨_, rfl, K.ofSparing h removePost_sparesLedger f⟩
  | readPosts f => exact ⟨_, rfl, K.ofSparing h readPosts_readsOnly.sparesLedger f⟩
  | readLanes f => exact ⟨_, rfl, K.ofSparing h readLanes_readsOnly.sparesLedger f⟩
  | setNotices f => exact ⟨_, rfl, K.ofSparing h setNotices_sparesLedger f⟩
  | clearNotices f => exact ⟨_, rfl, K.ofSparing h clearNotices_sparesLedger f⟩
  | readNotices f => exact ⟨_, rfl, K.ofSparing h readNotices_readsOnly.sparesLedger f⟩
  | requestFrame n bytes =>
    refine ⟨_, rfl, List.foldlRecOn (motive := P) bytes _ h fun t ht b _ => ?_⟩
    exact K.tables ht (State.tables_receiveByte t n b) (State.ledger_receiveByte t n b)
  | replyFrameComplete n =>
    refine ⟨_, rfl, ?_⟩
    split
    · exact h
    · exact K.tables h rfl rfl
  | entry n => exact ⟨_, rfl, K.ofDecision h fun r => K.decideEntry h n r⟩
  | privacy n => exact ⟨_, rfl, K.ofDecision h fun r => K.decidePrivacy h n r⟩
  | charge n => exact ⟨_, rfl, K.ofDecision h fun r => K.decideCharge h n r⟩
  | balance n => exact ⟨_, rfl, K.ofDecision h fun r => decideBalance h n r⟩
  | authorise n => exact ⟨_, rfl, K.ofDecision h fun r => K.decideAuthorise h n r⟩
  | complete n => exact ⟨_, rfl, K.ofDecision h fun r => K.decideComplete h n r⟩
  | void n => exact ⟨_, rfl, K.ofDecision h fun r => K.decideVoid h n r⟩
  | gate n => exact ⟨_, rfl, K.ofDecision h fun r => K.decideGate h n r⟩
  | muster n => exact ⟨_, rfl, K.ofDecision h fun r => K.decideMuster h n r⟩
  | alarmLevelChange n level => exact ⟨_, rfl, K.tables h rfl rfl⟩
  | qualifiedAssertion n =>
    refine ⟨_, rfl, ?_⟩
    split
    · exact K.assertInput h n
    · exact h
  | qualifiedRelease n =>
    refine ⟨_, rfl, ?_⟩
    split
    · exact K.tables h rfl rfl
    · exact h
  | secondArrival => exact ⟨_, rfl, K.arrival h _⟩
  | minuteTick => exact ⟨_, rfl, K.arrival h _⟩
  | holdLapse => exact ⟨_, rfl, K.arrival h _⟩

/-- A step is one command or event, or one period of the time base. -/
theorem step {t : State} (hstep : Machine.step s = .next t) : P t := by
  unfold Machine.step at hstep
  split at hstep
  · exact Host.Outcome.next.inj hstep ▸ K.tick h
  · rename_i c rest _
    have hrest : P (s.withPending rest) := K.tables h rfl rfl
    obtain ⟨t', ht, hP⟩ := K.exec hrest c
    exact Host.Outcome.next.inj (ht.symm.trans hstep) ▸ hP

end Kept

end Sys2Proof.Machine
end

section
/-! What the changes of the ledger leave of the order of the tables, and what they leave alone. -/

namespace Sys2Proof.Machine

/-! ### Counts of a table's records after one write -/

namespace Table

variable {α : Type} {t : Table α} {k : Nat} {a : α}

/-- Taking a record off the table is the reverse of listing it. -/
theorem countP_erase (hk : Table.find t k = some a) (p : Nat × α → Bool) :
    (Table.erase t k).countP p = t.countP p - (if p (k, a) then 1 else 0) := by
  induction t with
  | nil => simp at hk
  | cons e t ih =>
    obtain ⟨i, x⟩ := e
    simp only [Table.find] at hk
    split at hk
    · obtain rfl := Option.some.inj hk
      subst i
      simp [Table.erase, List.countP_cons]
    · have hle : (if p (k, a) then 1 else 0) ≤ t.countP p := by
        split
        · exact List.countP_pos_iff.2 ⟨_, Table.find_mem hk, ‹_›⟩
        · exact Nat.zero_le _
      simp only [Table.erase, if_neg ‹¬i = k›, List.countP_cons, ih hk]
      omega

theorem countP_mapRecords (t : Table α) (f : α → α) (q : α → Bool) :
    (Table.mapRecords t f).countP (fun e => q e.2) = t.countP (fun e => q (f e.2)) := by
  simp [Table.mapRecords, List.countP_map, Function.comp_def]

theorem ne_nil_of_find (hk : Table.find t k = some a) : t ≠ [] := by
  rintro rfl
  cases hk

end Table

/-! ### The order of the tables -/

namespace State

variable {s : State}

theorem TablesSorted.withRoster {x : Roster} (hs : s.TablesSorted) (hw : Table.wf x.guests) :
    (s.withRoster x).TablesSorted := ⟨hw, hs.2⟩

theorem TablesSorted.putGuest (hs : s.TablesSorted) (k : Nat) (g : Guest) : (s.putGuest k g).TablesSorted :=
  hs.withRoster (Table.put_wf hs.1 k g)

theorem TablesSorted.of_tables {t : State} (hs : s.TablesSorted) (h : t.tables = s.tables) : t.TablesSorted :=
  show t.tables.Sorted from h ▸ hs

theorem tables_movePresence (s : State) (k : Nat) (g : Guest) (q : Presence) :
    (s.movePresence k g q).tables = (s.putGuest k { g with presence := q }).tables := by
  unfold State.movePresence
  dsimp only
  split <;> simp

theorem TablesSorted.musterGuest (hs : s.TablesSorted) (k : Nat) (g : Guest) : (s.musterGuest k g).TablesSorted :=
  (hs.putGuest k { g with epoch := s.tally.epoch }).of_tables (by simp [State.musterGuest])

theorem TablesSorted.endMuster (hs : s.TablesSorted) : s.endMuster.TablesSorted := hs.of_tables (tables_endMuster s)

theorem tables_setStations (s : State) (w : BitVec 16) : (s.setStations w).tables = s.tables := by
  unfold State.setStations
  dsimp only
  split <;> simp

theorem TablesSorted.setStations (hs : s.TablesSorted) (w : BitVec 16) : (s.setStations w).TablesSorted :=
  hs.of_tables (tables_setStations s w)

theorem TablesSorted.putCabin (hs : s.TablesSorted) (i : Nat) (c : Cabin) : (s.putCabin i c).TablesSorted :=
  ((CardsAs.refl hs).putCabin i c).sorted

theorem TablesSorted.vacate (hs : s.TablesSorted) : (s.withCabin { s.cabin with cabins := [] }).TablesSorted :=
  ((CardsAs.refl hs).withCabin (x := { s.cabin with cabins := [] }) .nil).sorted

theorem TablesSorted.putFolio (hs : s.TablesSorted) (k : Nat) (x : Folio) : (s.putFolio k x).TablesSorted :=
  ((CardsAs.refl hs).putFolio k x).sorted

theorem TablesSorted.freeFolio (hs : s.TablesSorted) (k : Nat) : (s.freeFolio k).TablesSorted :=
  ((CardsAs.refl hs).freeFolio k).sorted

/-- A scrub empties every table but the outlets and the posts (R7). -/
theorem TablesSorted.scrub (hs : s.TablesSorted) (x : Store) : (s.withStore x).scrub.TablesSorted := by
  obtain ⟨-, -, -, -, houtlets, -, hposts⟩ := hs
  exact ⟨.nil, .nil, .nil, .nil, houtlets, .nil, hposts⟩

theorem TablesSorted.enrol (hs : s.TablesSorted) (k : Nat) (g : Guest) : (s.enrol k g).TablesSorted := by
  have hput : (s.withRoster ⟨Table.put s.roster.guests k g, s.roster.enrolled + 1⟩).TablesSorted :=
    hs.withRoster (Table.put_wf hs.1 k g)
  exact TablesSorted.of_tables (((CardsAs.refl hput).enterCabin g.cabin k).enterFolio g.folio).sorted
    (by simp [State.enrol])

theorem TablesSorted.amend {k : Nat} {g h : Guest} (hs : s.TablesSorted) (ha : s.Amends k g h) :
    (s.amend k g h).TablesSorted := (CardsAs.amend hs ha.found ⟨ha.cards, fun hp => ha.presence ▸ hp⟩).sorted

theorem TablesSorted.strikeOff (hs : s.TablesSorted) (k : Nat) (g : Guest) (b : Tally) :
    (s.strikeOff k g b).TablesSorted := by
  have hquit := (((CardsAs.refl hs).quitCabin g.cabin k).quitFolio g.folio).sorted
  have heval := TablesSorted.of_tables hquit (t := (((s.quitCabin g.cabin k).quitFolio g.folio).withTally
    (((s.quitCabin g.cabin k).quitFolio g.folio).tally.mapTotal g.presence (· - 1))).evaluateWatches b) (by simp)
  exact heval.withRoster (Table.erase_wf heval.1 k)

/-! ### What the changes leave alone -/

theorem enterCabin_eq (s : State) (cabin : Option Nat) (k : Nat) :
    s.enterCabin cabin k = { s with cabin := (s.enterCabin cabin k).cabin } := by cases cabin <;> rfl

theorem enterFolio_eq (s : State) (folio : Option Nat) :
    s.enterFolio folio = { s with folio := (s.enterFolio folio).folio } := by
  cases folio with
  | none => rfl
  | some a =>
    unfold enterFolio joinFolio
    dsimp only
    split <;> rfl

/-- The cabin unit's part of AMEND_GUEST (R45). -/
def recabin (s : State) (k : Nat) (old new : Option Nat) : State :=
  if new = old then s else (s.quitCabin old k).enterCabin new k

/-- The folio unit's part of AMEND_GUEST (R46). -/
def refolio (s : State) (old new : Option Nat) : State :=
  if new = old then s else (s.quitFolio old).enterFolio new

/-- AMEND_GUEST by its owners (R44 to R47). -/
theorem amend_owners (s : State) (k : Nat) (g h : Guest) : s.amend k g h
    = (if h.station = g.station then ((s.recabin k g.cabin h.cabin).refolio g.folio h.folio).putGuest k h
        else (((s.recabin k g.cabin h.cabin).refolio g.folio h.folio).putGuest k h).moveStation g
          h.station).evaluateWatches s.tally := rfl

theorem recabin_eq (s : State) (k : Nat) (old new : Option Nat) :
    s.recabin k old new = { s with cabin := (s.recabin k old new).cabin } := by
  unfold recabin
  split
  · rfl
  · rw [enterCabin_eq, quitCabin_eq]

theorem refolio_eq (s : State) (old new : Option Nat) :
    s.refolio old new = { s with folio := (s.refolio old new).folio } := by
  unfold refolio
  split
  · rfl
  · rw [enterFolio_eq, quitFolio_eq]

theorem TablesSorted.recabin (hs : s.TablesSorted) (k : Nat) (old new : Option Nat) :
    (s.recabin k old new).TablesSorted := by
  unfold State.recabin
  split
  · exact hs
  · exact (((CardsAs.refl hs).quitCabin old k).enterCabin new k).sorted

theorem TablesSorted.refolio (hs : s.TablesSorted) (old new : Option Nat) : (s.refolio old new).TablesSorted := by
  unfold State.refolio
  split
  · exact hs
  · exact (((CardsAs.refl hs).quitFolio old).enterFolio new).sorted

theorem moveStation_keeps (s : State) (g : Guest) (x : Fin 16) :
    (s.moveStation g x).store = s.store ∧ (s.moveStation g x).roster = s.roster ∧ (s.moveStation g x).cabin = s.cabin
      ∧ (s.moveStation g x).folio = s.folio ∧ (s.moveStation g x).mode = s.mode ∧ (s.moveStation g x).clock = s.clock
      ∧ (s.moveStation g x).tally.epoch = s.tally.epoch := by
  unfold moveStation
  dsimp only
  split_ifs <;> simp [Tally.mapAboardAt, Tally.mapUnmustered]

theorem ledger_evaluateCompletion (s : State) :
    s.evaluateCompletion.ledger = { s.ledger with complete := s.tally.completionHolds } := by
  unfold evaluateCompletion
  split <;> rename_i hc hh
  · rw [hh]; rfl
  · rw [hh]; rfl
  · rw [hh, ← hc]; rfl
  · rw [hh, ← hc]; rfl

end State

/-! ### The start of a muster -/

theorem nextEpoch_pos (e : Nat) : 0 < nextEpoch e := by
  unfold nextEpoch
  split <;> omega

/-- The record of a guest when the epoch `e` begins (R138). -/
def Guest.clearEpoch (e : Nat) (g : Guest) : Guest := if g.epoch = e then { g with epoch := 0 } else g

theorem Guest.clearEpoch_epoch {e : Nat} (he : 0 < e) (g : Guest) : (g.clearEpoch e).epoch ≠ e := by
  unfold Guest.clearEpoch
  split
  · exact he.ne
  · assumption

theorem Guest.clearEpoch_keeps (e : Nat) (g : Guest) : g.clearEpoch e = { g with epoch := (g.clearEpoch e).epoch } := by
  unfold Guest.clearEpoch
  split <;> rfl

/-- The state in which a muster begins, before its evaluations (R138). -/
def State.musterBegun (s : State) : State :=
  let guests := Table.mapRecords s.roster.guests (Guest.clearEpoch (nextEpoch s.tally.epoch))
  let t := s.withRoster { s.roster with guests := guests }
  let t := t.withTally { t.tally with epoch := nextEpoch s.tally.epoch, unmustered := t.tally.aboardAt }
  t.withMode { t.mode with muster := true }

theorem State.startMuster_begun (s : State) :
    s.startMuster = s.musterBegun.evaluateCompletion.evaluateWatches s.tally := rfl

theorem State.TablesSorted.musterBegun {s : State} (h : s.TablesSorted) : s.musterBegun.TablesSorted :=
  h.withRoster (Table.mapRecords_wf h.1 _)

end Sys2Proof.Machine
end

section
/-! Every step keeps the tallies equal to what they count (R36, R115, R139, R141). -/

namespace Sys2Proof.Machine

/-! ### The guests that a test picks -/

/-- A count after one record has been replaced, which it counted before or does now. -/
def moved (n : Nat) (before after : Bool) : Nat :=
  match before, after with
  | true, false => n - 1
  | false, true => n + 1
  | _, _ => n

@[simp] theorem moved_out (n : Nat) : moved n true false = n - 1 := rfl

@[simp] theorem moved_in (n : Nat) : moved n false true = n + 1 := rfl

@[simp] theorem moved_self (n : Nat) (b : Bool) : moved n b b = n := by cases b <;> rfl

/-- The number of records of a guest table that a test picks. -/
def guestCount (t : Table Guest) (p : Guest → Bool) : Nat := t.countP (fun e => p e.2)

section Count

variable {t : Table Guest} {k : Nat} {g h : Guest} (p : Guest → Bool)

theorem countGuests_eq (s : State) : s.countGuests p = guestCount s.roster.guests p :=
  List.countP_eq_length_filter.symm

theorem guestCount_put (hw : Table.wf t) (hk : Table.find t k = some g) :
    guestCount (Table.put t k h) p = moved (guestCount t p) (p g) (p h) := by
  have hput : guestCount (Table.put t k h) p + (if p g then 1 else 0) = guestCount t p + (if p h then 1 else 0) :=
    Table.countP_put hw hk h _
  cases hg : p g <;> cases hh : p h <;> simp [hg, hh] at hput <;> simp only [moved] <;> omega

theorem guestCount_put_free (hk : Table.find t k = none) :
    guestCount (Table.put t k g) p = guestCount t p + (if p g then 1 else 0) := Table.countP_put_free hk g _

theorem guestCount_erase (hk : Table.find t k = some g) :
    guestCount (Table.erase t k) p = guestCount t p - (if p g then 1 else 0) := Table.countP_erase hk _

theorem guestCount_mapRecords (f : Guest → Guest) :
    guestCount (Table.mapRecords t f) p = guestCount t (fun g => p (f g)) := Table.countP_mapRecords t f p

theorem guestCount_all (t : Table Guest) : guestCount t (fun _ => true) = t.length := by simp [guestCount]

theorem guestCount_congr {q : Guest → Bool} (h : ∀ g, p g = q g) : guestCount t p = guestCount t q := by
  rw [funext h]

end Count

/-! ### The counts as the ledger holds them -/

/-- The ship total of one presence (R115). -/
def Ledger.total (l : Ledger) (q : Presence) : Nat :=
  match q with
  | .expected => l.expected
  | .aboard => l.aboard
  | .ashore => l.ashore
  | .departed => l.departed

/-- The guests that are ABOARD at a station (R115). -/
def Guest.isAboardAt (g : Guest) (x : Fin 16) : Bool := g.presence == .aboard && g.station == x

/-- The counts count the guests (R36, R115, R139), and in BLANK there is none. -/
structure Ledger.Counted (l : Ledger) : Prop where
  blank      : l.part = .blank → l.roster.guests = []
  enrolled   : l.roster.enrolled = guestCount l.roster.guests (fun _ => true)
  total      : ∀ q, l.total q = guestCount l.roster.guests (fun g => g.presence == q)
  aboardAt   : ∀ x, cell l.aboardAt x = guestCount l.roster.guests (fun g => g.isAboardAt x)
  unmustered : ∀ x, cell l.unmustered x
    = if l.muster then guestCount l.roster.guests (fun g => g.isMissing l.epoch x) else 0

/-- Muster completion holds (R141). -/
def Ledger.completionHolds (l : Ledger) : Bool :=
  l.stations != 0 && (List.finRange 16).all (fun i => !l.stations.getLsbD i.val || cell l.unmustered i == 0)

/-- The completion state follows its condition during a muster and is OPEN outside one (R141, R144). -/
abbrev Ledger.Completed (l : Ledger) : Prop := l.complete = (l.muster && l.completionHolds)

theorem talliesSound_iff {s : State} :
    s.TalliesSound ↔ s.TablesSorted ∧ s.ledger.Counted ∧ s.ledger.Completed := by
  have hcount : ∀ p, s.countGuests p = guestCount s.ledger.roster.guests p := fun p => countGuests_eq p s
  constructor
  · rintro ⟨hsort, hblank, ⟨henrolled, hexpected, haboard, hashore, hdeparted, hat⟩, hunmustered, hcomplete⟩
    refine ⟨hsort, ⟨hblank, henrolled.trans (guestCount_all _).symm, fun q => ?_,
      fun x => (hat x).trans (hcount _), fun x => ?_⟩, hcomplete⟩
    · cases q
      · exact hexpected.trans (hcount _)
      · exact haboard.trans (hcount _)
      · exact hashore.trans (hcount _)
      · exact hdeparted.trans (hcount _)
    · rw [← hcount]
      exact hunmustered x
  · rintro ⟨hsort, hc, hcomplete⟩
    have htotal := fun q => (hc.total q).trans (hcount _).symm
    refine ⟨hsort, hc.blank, ⟨hc.enrolled.trans (guestCount_all _), htotal .expected, htotal .aboard, htotal .ashore,
      htotal .departed, fun x => (hc.aboardAt x).trans (hcount _).symm⟩, fun x => ?_, hcomplete⟩
    rw [hcount]
    exact hc.unmustered x

/-! ### What the movements do to the counts -/

/-- The ship total of one presence, in the tally unit. -/
def Tally.ofPresence (t : Tally) (q : Presence) : Nat :=
  match q with
  | .expected => t.expected
  | .aboard => t.aboard
  | .ashore => t.ashore
  | .departed => t.departed

theorem State.ledger_total (s : State) (q : Presence) : s.ledger.total q = s.tally.ofPresence q := by cases q <;> rfl

theorem Tally.ofPresence_mapTotal (t : Tally) (p q : Presence) (f : Nat → Nat) :
    (t.mapTotal p f).ofPresence q = if p == q then f (t.ofPresence q) else t.ofPresence q := by
  cases p <;> cases q <;> rfl

theorem Tally.cell_mapAboardAt (t : Tally) (x y : Fin 16) (f : Nat → Nat) :
    cell (t.mapAboardAt x f).aboardAt y = if x == y then f (cell t.aboardAt y) else cell t.aboardAt y := by
  by_cases h : x = y
  · subst h; simp [Tally.mapAboardAt]
  · simp [Tally.mapAboardAt, cell_putCell_ne _ h, h]

theorem Tally.cell_mapUnmustered (t : Tally) (x y : Fin 16) (f : Nat → Nat) :
    cell (t.mapUnmustered x f).unmustered y = if x == y then f (cell t.unmustered y) else cell t.unmustered y := by
  by_cases h : x = y
  · subst h; simp [Tally.mapUnmustered]
  · simp [Tally.mapUnmustered, cell_putCell_ne _ h, h]

theorem Tally.ofPresence_move {p q : Presence} (t : Tally) (x : Fin 16) (hq : q ≠ p) (r : Presence) :
    (t.move x p q).ofPresence r = moved (t.ofPresence r) (p == r) (q == r) := by
  have hat : ∀ (t : Tally) (x : Fin 16) (f : Nat → Nat), (t.mapAboardAt x f).ofPresence r = t.ofPresence r :=
    fun t x f => by cases r <;> rfl
  unfold Tally.move
  dsimp only
  rw [apply_ite (Tally.ofPresence · r), hat, ite_self, apply_ite (Tally.ofPresence · r), hat, ite_self,
    Tally.ofPresence_mapTotal, Tally.ofPresence_mapTotal]
  by_cases hp : p = r
  · subst hp
    simp [beq_eq_false_iff_ne.2 hq]
  · by_cases hr : q = r
    · simp [beq_eq_false_iff_ne.2 hp, hr]
    · simp [beq_eq_false_iff_ne.2 hp, beq_eq_false_iff_ne.2 hr]

/-- The aboard counts after a guest has come to a station or gone from it. -/
theorem Tally.cell_move {p q : Presence} (t : Tally) (x : Fin 16) (hq : q ≠ p) (y : Fin 16) :
    cell (t.move x p q).aboardAt y = moved (cell t.aboardAt y) (p == .aboard && x == y) (q == .aboard && x == y) := by
  have htotal : ∀ (t : Tally) (p : Presence) (f : Nat → Nat), (t.mapTotal p f).aboardAt = t.aboardAt :=
    fun t p f => by cases p <;> rfl
  unfold Tally.move
  by_cases hp : p = .aboard
  · subst hp
    simp only [hq, if_true, if_false, Tally.cell_mapAboardAt, htotal, beq_self_eq_true, beq_eq_false_iff_ne.2 hq,
      Bool.true_and, Bool.false_and]
    cases x == y <;> rfl
  · simp only [hp, if_false, beq_eq_false_iff_ne.2 hp, Bool.false_and]
    by_cases ha : q = .aboard
    · simp only [ha, if_true, Tally.cell_mapAboardAt, htotal, beq_self_eq_true, Bool.true_and]
      cases x == y <;> rfl
    · simp only [ha, if_false, htotal, beq_eq_false_iff_ne.2 ha, Bool.false_and, moved_self]

/-- The unmustered counts follow the aboard counts (step 3 of R117). -/
theorem Tally.cell_moveUnmustered {p q : Presence} (t : Tally) (x : Fin 16) (hq : q ≠ p) (y : Fin 16) :
    cell (t.moveUnmustered x p q).unmustered y
      = moved (cell t.unmustered y) (p == .aboard && x == y) (q == .aboard && x == y) := by
  unfold Tally.moveUnmustered
  by_cases hp : p = .aboard
  · subst hp
    simp only [hq, if_true, if_false, Tally.cell_mapUnmustered, beq_self_eq_true, beq_eq_false_iff_ne.2 hq,
      Bool.true_and, Bool.false_and]
    cases x == y <;> rfl
  · simp only [hp, if_false, beq_eq_false_iff_ne.2 hp, Bool.false_and]
    by_cases ha : q = .aboard
    · simp only [ha, if_true, Tally.cell_mapUnmustered, beq_self_eq_true, Bool.true_and]
      cases x == y <;> rfl
    · simp only [ha, if_false, beq_eq_false_iff_ne.2 ha, Bool.false_and, moved_self]

/-- One of a station's counts goes over to another station. -/
theorem Tally.cell_restation {x y : Fin 16} (t : Tally) (hxy : y ≠ x) (z : Fin 16) :
    cell ((t.mapAboardAt x (· - 1)).mapAboardAt y (· + 1)).aboardAt z
      = moved (cell t.aboardAt z) (x == z) (y == z) := by
  simp only [Tally.cell_mapAboardAt]
  by_cases hx : x = z
  · subst hx
    simp [beq_eq_false_iff_ne.2 hxy]
  · by_cases hy : y = z
    · simp [beq_eq_false_iff_ne.2 hx, hy]
    · simp [beq_eq_false_iff_ne.2 hx, beq_eq_false_iff_ne.2 hy]

theorem Tally.cell_restationUnmustered {x y : Fin 16} (t : Tally) (hxy : y ≠ x) (z : Fin 16) :
    cell ((t.mapUnmustered x (· - 1)).mapUnmustered y (· + 1)).unmustered z
      = moved (cell t.unmustered z) (x == z) (y == z) := by
  simp only [Tally.cell_mapUnmustered]
  by_cases hx : x = z
  · subst hx
    simp [beq_eq_false_iff_ne.2 hxy]
  · by_cases hy : y = z
    · simp [beq_eq_false_iff_ne.2 hx, hy]
    · simp [beq_eq_false_iff_ne.2 hx, beq_eq_false_iff_ne.2 hy]

end Sys2Proof.Machine
end

section
/-! Every step keeps the tallies equal to what they count (R36, R115, R139, R141): what each change of the ledger does
to the counts. -/

namespace Sys2Proof.Machine

/-! ### What a movement leaves of the tally unit -/

@[simp] theorem Tally.ofPresence_mapAboardAt (t : Tally) (x : Fin 16) (f : Nat → Nat) (r : Presence) :
    (t.mapAboardAt x f).ofPresence r = t.ofPresence r := by cases r <;> rfl

@[simp] theorem Tally.ofPresence_mapUnmustered (t : Tally) (x : Fin 16) (f : Nat → Nat) (r : Presence) :
    (t.mapUnmustered x f).ofPresence r = t.ofPresence r := by cases r <;> rfl

theorem Tally.ofPresence_moveUnmustered (t : Tally) (x : Fin 16) (p q r : Presence) :
    (t.moveUnmustered x p q).ofPresence r = t.ofPresence r := by
  unfold Tally.moveUnmustered
  dsimp only
  split_ifs <;> simp

theorem Tally.moveUnmustered_keeps (t : Tally) (x : Fin 16) (p q : Presence) :
    (t.moveUnmustered x p q).aboardAt = t.aboardAt ∧ (t.moveUnmustered x p q).epoch = t.epoch := by
  unfold Tally.moveUnmustered
  dsimp only
  split_ifs <;> exact ⟨rfl, rfl⟩

theorem Tally.mapTotal_keeps (t : Tally) (p : Presence) (f : Nat → Nat) :
    (t.mapTotal p f).aboardAt = t.aboardAt ∧ (t.mapTotal p f).unmustered = t.unmustered
      ∧ (t.mapTotal p f).epoch = t.epoch ∧ (t.mapTotal p f).stations = t.stations
      ∧ (t.mapTotal p f).complete = t.complete := by
  cases p <;> exact ⟨rfl, rfl, rfl, rfl, rfl⟩

/-- Steps 1 and 2 of R117 leave what step 3 and the completion turn on. -/
theorem Tally.move_keeps (t : Tally) (x : Fin 16) (p q : Presence) :
    (t.move x p q).unmustered = t.unmustered ∧ (t.move x p q).stations = t.stations
      ∧ (t.move x p q).complete = t.complete := by
  unfold Tally.move
  dsimp only
  split_ifs <;> simp [Tally.mapAboardAt, Tally.mapTotal_keeps]

/-- TalliesSound as the ledger says it. -/
abbrev State.Tallied (s : State) : Prop := s.TablesSorted ∧ s.ledger.Counted ∧ s.ledger.Completed

namespace State

variable {s t : State}

/-! ### Changes elsewhere, and evaluations -/

theorem Tallied.elsewhere (h : s.Tallied) (hs : t.TablesSorted)
    (hl : t.ledger = { s.ledger with cabins := t.cabin.cabins, folios := t.folio.folios
                                     currencies := t.folio.currencies, clock := t.clock }) : t.Tallied := by
  obtain ⟨-, hc, hcomplete⟩ := h
  rw [Tallied, hl]
  exact ⟨hs, ⟨hc.blank, hc.enrolled, hc.total, hc.aboardAt, hc.unmustered⟩, hcomplete⟩

/-- An evaluation of completion during a muster. -/
theorem Tallied.ofCompletion (hs : t.TablesSorted) (hc : t.ledger.Counted) (hm : t.mode.muster = true) :
    t.evaluateCompletion.Tallied := by
  refine ⟨hs.of_tables (tables_evaluateCompletion t), ?_⟩
  rw [ledger_evaluateCompletion]
  refine ⟨⟨hc.blank, hc.enrolled, hc.total, hc.aboardAt, hc.unmustered⟩, ?_⟩
  show t.tally.completionHolds = (t.mode.muster && t.tally.completionHolds)
  rw [hm, Bool.true_and]

theorem Tallied.ofWatches (h : t.Tallied) (b : Tally) : (t.evaluateWatches b).Tallied := by
  refine ⟨h.1.of_tables (tables_evaluateWatches t b), ?_⟩
  rw [ledger_evaluateWatches]
  exact h.2

/-! ### One guest -/

section OneGuest

variable {k : Nat} {g h : Guest}

/-- The record `h` takes the place of `g`, and the counts follow: the rule that every movement of a guest is a case
of. -/
theorem counted_replaced {x : Tally} (ht : s.Tallied) (hg : s.guestAt k = some g)
    (htotal : ∀ r, x.ofPresence r = moved (s.tally.ofPresence r) (g.presence == r) (h.presence == r))
    (hat : ∀ y, cell x.aboardAt y = moved (cell s.tally.aboardAt y) (g.isAboardAt y) (h.isAboardAt y))
    (hun : ∀ y, cell x.unmustered y = moved (cell s.tally.unmustered y) (s.mode.muster && g.isMissing s.tally.epoch y)
      (s.mode.muster && h.isMissing s.tally.epoch y))
    (he : x.epoch = s.tally.epoch) : ((s.putGuest k h).withTally x).ledger.Counted := by
  obtain ⟨hs, hc, -⟩ := ht
  have hput : ∀ p : Guest → Bool, guestCount (Table.put s.roster.guests k h) p
      = moved (guestCount s.roster.guests p) (p g) (p h) := fun p => guestCount_put p hs.1 hg
  refine ⟨fun hb => absurd (hc.blank hb) (Table.ne_nil_of_find hg), ?_, fun r => ?_, fun y => ?_, fun y => ?_⟩
  · exact hc.enrolled.trans (hput fun _ => true).symm
  · rw [ledger_total]
    refine (htotal r).trans (Eq.trans ?_ (hput _).symm)
    rw [← ledger_total, hc.total]
    rfl
  · exact (hat y).trans (Eq.trans (congrArg (moved · _ _) (hc.aboardAt y)) (hput _).symm)
  · refine (hun y).trans ?_
    have hy := hc.unmustered y
    change cell s.tally.unmustered y
      = if s.mode.muster = true then guestCount s.roster.guests fun g => g.isMissing s.tally.epoch y else 0 at hy
    change _ = if s.mode.muster = true
      then guestCount (Table.put s.roster.guests k h) fun g => g.isMissing x.epoch y else 0
    rw [hy, he, hput]
    cases s.mode.muster <;> simp

/-- Outside a muster, and of a guest already mustered in it, no unmustered count turns on the record. -/
theorem not_missing {e : Nat} (hm : ¬ (s.mode.muster = true ∧ g.epoch ≠ e)) (y : Fin 16) :
    (s.mode.muster && g.isMissing e y) = false := by
  rw [Bool.eq_false_iff]
  intro hb
  obtain ⟨hmuster, hmissing⟩ := Bool.and_eq_true_iff.1 hb
  exact hm ⟨hmuster, bne_iff_ne.1 (Bool.and_eq_true_iff.1 hmissing).2⟩

/-- Nothing that the counts turn on changes. -/
theorem Tallied.putGuest (ht : s.Tallied) (hg : s.guestAt k = some g) (hp : h.presence = g.presence)
    (hx : h.station = g.station) (he : h.epoch = g.epoch) : (s.putGuest k h).Tallied := by
  refine ⟨ht.1.putGuest k h, ?_, ht.2.2⟩
  refine counted_replaced (x := s.tally) ht hg (fun r => ?_) (fun y => ?_) (fun y => ?_) rfl
  · rw [hp, moved_self]
  · rw [Guest.isAboardAt, Guest.isAboardAt, hp, hx, moved_self]
  · rw [Guest.isMissing, Guest.isMissing, hp, hx, he, moved_self]

theorem Tallied.movePresence {q : Presence} (ht : s.Tallied) (hg : s.guestAt k = some g) (hq : q ≠ g.presence) :
    (s.movePresence k g q).Tallied := by
  have hcomplete := ht.2.2
  obtain ⟨hu, hst, hco⟩ := s.tally.move_keeps g.station g.presence q
  have hepoch := s.tally.move_epoch g.station g.presence q
  have htotal := fun r => s.tally.ofPresence_move g.station hq r
  have hat := fun y => s.tally.cell_move g.station hq y
  unfold State.movePresence
  dsimp only
  split
  · rename_i hm
    obtain ⟨hmuster, hne⟩ := hm
    refine .ofCompletion (ht.1.putGuest k _) ?_ hmuster
    refine counted_replaced (x := (s.tally.move g.station g.presence q).moveUnmustered g.station g.presence q) ht hg
      (fun r => ?_) (fun y => ?_) (fun y => ?_) ?_
    · rw [Tally.ofPresence_moveUnmustered]
      exact htotal r
    · rw [(Tally.moveUnmustered_keeps _ _ _ _).1]
      exact hat y
    · have hmissing : (g.epoch != s.tally.epoch) = true := bne_iff_ne.2 (hepoch ▸ hne)
      rw [Tally.cell_moveUnmustered _ _ hq, hu, show s.mode.muster = true from hmuster]
      simp only [Guest.isMissing, hmissing, Bool.and_true, Bool.true_and]
    · rw [(Tally.moveUnmustered_keeps _ _ _ _).2, hepoch]
  · rename_i hm
    refine ⟨ht.1.putGuest k _, ?_, ?_⟩
    · refine counted_replaced ht hg htotal hat (fun y => ?_) hepoch
      have hstill : ¬ (s.mode.muster = true ∧ g.epoch ≠ s.tally.epoch) := fun ⟨hmuster, hne⟩ =>
        hm ⟨hmuster, hepoch.symm ▸ hne⟩
      rw [not_missing hstill, not_missing (g := { g with presence := q }) hstill, moved_self, hu]
    · show (s.tally.move g.station g.presence q).complete
        = (s.mode.muster && (s.tally.move g.station g.presence q).completionHolds)
      rw [Tally.completionHolds, hu, hst, hco]
      exact hcomplete

theorem Tallied.musterGuest (ht : s.Tallied) (hg : s.guestAt k = some g) (hm : s.mode.muster = true)
    (ha : g.presence = .aboard) (he : g.epoch ≠ s.tally.epoch) : (s.musterGuest k g).Tallied := by
  let t := (s.putGuest k { g with epoch := s.tally.epoch }).withTally (s.tally.mapUnmustered g.station (· - 1))
  have hsorted : t.TablesSorted := ht.1.putGuest k _
  suffices hcounted : t.ledger.Counted from
    Tallied.ofWatches (t := t.evaluateCompletion) (.ofCompletion hsorted hcounted hm) s.tally
  refine counted_replaced (x := s.tally.mapUnmustered g.station (· - 1)) ht hg (fun r => ?_) (fun y => ?_)
    (fun y => ?_) rfl
  · exact (Tally.ofPresence_mapUnmustered _ _ _ r).trans (moved_self _ _).symm
  · exact (moved_self _ _).symm
  · have hmissing : (g.epoch != s.tally.epoch) = true := bne_iff_ne.2 he
    rw [Tally.cell_mapUnmustered, hm]
    simp only [Guest.isMissing, ha, hmissing, beq_self_eq_true, bne_self_eq_false, Bool.true_and, Bool.and_true,
      Bool.and_false]
    cases g.station == y <;> rfl

/-- A guest's station changes with the record (R47). -/
theorem Tallied.restation (ht : s.Tallied) (hg : s.guestAt k = some g) (hp : h.presence = g.presence)
    (he : h.epoch = g.epoch) :
    (if h.station = g.station then s.putGuest k h else (s.putGuest k h).moveStation g h.station).Tallied := by
  have hcomplete := ht.2.2
  split
  · exact ht.putGuest hg hp ‹_› he
  · rename_i hx
    unfold moveStation
    split
    · rename_i ha
      have htotal : ∀ x : Tally, (∀ r, x.ofPresence r = s.tally.ofPresence r) →
          ∀ r, x.ofPresence r = moved (s.tally.ofPresence r) (g.presence == r) (h.presence == r) := fun x hx r => by
        rw [hp, moved_self, hx]
      have hat : ∀ y, cell ((s.tally.mapAboardAt g.station (· - 1)).mapAboardAt h.station (· + 1)).aboardAt y
          = moved (cell s.tally.aboardAt y) (g.isAboardAt y) (h.isAboardAt y) := fun y => by
        rw [Tally.cell_restation _ hx]
        simp only [Guest.isAboardAt, hp, ha, beq_self_eq_true, Bool.true_and]
      dsimp only
      split
      · rename_i hm
        obtain ⟨hmuster, hne⟩ := hm
        refine .ofCompletion (ht.1.putGuest k _) ?_ hmuster
        refine counted_replaced (x := ((((s.tally.mapAboardAt g.station (· - 1)).mapAboardAt h.station
          (· + 1))).mapUnmustered g.station (· - 1)).mapUnmustered h.station (· + 1)) ht hg
          (htotal _ fun r => by simp) hat (fun y => ?_) rfl
        have hmissing : (g.epoch != s.tally.epoch) = true := bne_iff_ne.2 hne
        rw [Tally.cell_restationUnmustered _ hx, show s.mode.muster = true from hmuster]
        simp only [Guest.isMissing, hp, ha, he, hmissing, beq_self_eq_true, Bool.true_and, Bool.and_true]
        rfl
      · rename_i hm
        refine ⟨ht.1.putGuest k h, ?_, hcomplete⟩
        refine counted_replaced ht hg (htotal _ fun r => by simp) hat (fun y => ?_) rfl
        have hstill : ¬ (s.mode.muster = true ∧ g.epoch ≠ s.tally.epoch) := hm
        rw [not_missing hstill, not_missing (he.symm ▸ hstill), moved_self]
        rfl
    · rename_i ha
      refine ⟨ht.1.putGuest k h, ?_, hcomplete⟩
      have hout : (g.presence == .aboard) = false := beq_eq_false_iff_ne.2 ha
      refine counted_replaced (x := s.tally) ht hg (fun r => ?_) (fun y => ?_) (fun y => ?_) rfl
      · rw [hp, moved_self]
      · simp only [Guest.isAboardAt, hp, hout, Bool.false_and, moved_self]
      · simp only [Guest.isMissing, hp, hout, Bool.false_and, moved_self]

end OneGuest

end State

end Sys2Proof.Machine
end

section
/-! Every step keeps the tallies equal to what they count (R36, R115, R139, R141): the changes of the whole guest table,
and the obligation. -/

namespace Sys2Proof.Machine

namespace State

variable {s t : State}

theorem Tallied.of_ledger (h : s.Tallied) (ht : s.LedgerAs t) : t.Tallied := by
  obtain ⟨hsorted, hl⟩ := ht
  rw [Tallied, hl]
  exact ⟨hsorted, h.2⟩

theorem tallied_reset : State.reset.Tallied :=
  talliesSound_iff.1 reset_talliesSound

theorem Tallied.setPart {x : PartState} (h : s.Tallied) (hx : x ≠ .blank) :
    (s.withStore { s.store with part := x }).Tallied := by
  obtain ⟨hs, hc, hcomplete⟩ := h
  exact ⟨hs, ⟨fun hb => absurd hb hx, hc.enrolled, hc.total, hc.aboardAt, hc.unmustered⟩, hcomplete⟩

/-- Without guests, and outside a muster, no unmustered count stands. -/
theorem Tallied.unmustered_zero (h : s.Tallied) (hn : s.roster.guests = [] ∨ s.mode.muster = false) (y : Fin 16) :
    cell s.tally.unmustered y = 0 := by
  obtain ⟨-, hc, -⟩ := h
  refine (hc.unmustered y).trans ?_
  cases hn with
  | inl hn =>
    rw [show s.ledger.roster.guests = [] from hn]
    exact ite_self 0
  | inr hn =>
    rw [show s.ledger.muster = false from hn]
    rfl

/-- A scrub leaves no guest, and no count (R7). -/
theorem Tallied.scrub {x : Store} (h : s.Tallied)
    (hn : s.store.part = .blank ∨ s.roster.guests = [] ∨ s.mode.muster = false) : (s.withStore x).scrub.Tallied := by
  have hzero := h.unmustered_zero (hn.elim (fun hb => .inl (h.2.1.blank hb)) id)
  obtain ⟨hs, -, hcomplete⟩ := h
  have hcell : ∀ y : Fin 16, cell (Vector.replicate 16 0) y = 0 := fun y => by simp [cell]
  refine ⟨hs.scrub x, ⟨fun _ => rfl, rfl, fun q => by cases q <;> rfl, hcell, fun y => (hcell y).trans ?_⟩, ?_⟩
  · exact (ite_self 0).symm
  · refine hcomplete.trans (congrArg (s.mode.muster && ·) ?_)
    show (s.tally.stations != 0 && _) = (s.tally.stations != 0 && _)
    simp only [show ∀ y, cell s.ledger.unmustered y = 0 from hzero,
      show ∀ y, cell (s.withStore x).scrub.ledger.unmustered y = 0 from hcell]
    rfl

/-- Every aboard guest is unmustered in an epoch that no record holds. -/
theorem counted_mustering {f : Guest → Guest} {e : Nat} (h : s.Tallied) (ht : t.ledger = { s.ledger with
      roster := ⟨Table.mapRecords s.roster.guests f, s.roster.enrolled⟩, unmustered := s.tally.aboardAt, epoch := e
      muster := true })
    (hp : ∀ g, (f g).presence = g.presence) (hx : ∀ g, (f g).station = g.station) (he : ∀ g, (f g).epoch ≠ e) :
    t.ledger.Counted := by
  obtain ⟨-, hc, -⟩ := h
  have hmap : ∀ p : Guest → Bool, guestCount (Table.mapRecords s.roster.guests f) p
      = guestCount s.roster.guests (fun g => p (f g)) := fun p => guestCount_mapRecords p f
  have hat : ∀ y, guestCount (Table.mapRecords s.roster.guests f) (fun g => g.isAboardAt y)
      = guestCount s.roster.guests (fun g => g.isAboardAt y) := fun y => by
    rw [hmap]
    refine guestCount_congr _ fun g => ?_
    rw [Guest.isAboardAt, hp, hx]
    rfl
  have hun : ∀ y, guestCount (Table.mapRecords s.roster.guests f) (fun g => g.isMissing e y)
      = guestCount s.roster.guests (fun g => g.isAboardAt y) := fun y => by
    rw [hmap]
    refine guestCount_congr _ fun g => ?_
    rw [Guest.isMissing, hp, hx, bne_iff_ne.2 (he g), Bool.and_true]
    rfl
  rw [ht]
  refine ⟨fun hb => ?_, ?_, fun q => ?_, fun y => ?_, fun y => ?_⟩
  · show Table.mapRecords s.roster.guests f = []
    rw [show s.roster.guests = [] from hc.blank hb]
    rfl
  · exact hc.enrolled.trans (hmap fun _ => true).symm
  · refine (hc.total q).trans (Eq.symm ((hmap _).trans (guestCount_congr _ fun g => ?_)))
    rw [hp]
  · exact (hc.aboardAt y).trans (hat y).symm
  · exact (hc.aboardAt y).trans (hun y).symm

/-- The epoch that a muster begins with is taken out of the records (R138). -/
theorem Tallied.startMuster (h : s.Tallied) : s.startMuster.Tallied := by
  have hcounted := counted_mustering (t := s.musterBegun) h rfl (fun g => by rw [g.clearEpoch_keeps])
    (fun g => by rw [g.clearEpoch_keeps]) fun g => g.clearEpoch_epoch (nextEpoch_pos _)
  rw [startMuster_begun]
  exact .ofWatches (.ofCompletion h.1.musterBegun hcounted rfl) _

theorem Tallied.endMuster (h : s.Tallied) : s.endMuster.Tallied := by
  obtain ⟨hs, hc, -⟩ := h
  have hzero : ∀ y : Fin 16, cell (Vector.replicate 16 0) y = 0 := fun y => by simp [cell]
  have hended : ((s.withMode { s.mode with muster := false }).withTally
      { s.tally with unmustered := Vector.replicate 16 0, complete := false }).Tallied :=
    ⟨hs, ⟨hc.blank, hc.enrolled, hc.total, hc.aboardAt, hzero⟩, rfl⟩
  exact hended.ofWatches s.tally

theorem Tallied.setStations (h : s.Tallied) (w : BitVec 16) : (s.setStations w).Tallied := by
  obtain ⟨hs, hc, hcomplete⟩ := h
  have hcounted : (s.withTally { s.tally with stations := w }).ledger.Counted :=
    ⟨hc.blank, hc.enrolled, hc.total, hc.aboardAt, hc.unmustered⟩
  unfold State.setStations
  dsimp only
  split
  · exact .ofCompletion hs hcounted ‹_›
  · rename_i hm
    refine ⟨hs, hcounted, ?_⟩
    have hm : s.mode.muster = false := Bool.eq_false_iff.2 hm
    refine Eq.trans (b := false) ?_ ?_
    · refine hcomplete.trans ?_
      rw [show s.ledger.muster = false from hm, Bool.false_and]
    · show false = (s.mode.muster && _)
      rw [hm, Bool.false_and]

/-- A guest who is listed as EXPECTED counts in the enrolled count and the EXPECTED total alone (R42). -/
theorem Tallied.enrol {k : Nat} {g : Guest} (h : s.Tallied) (hg : s.Enrols k g) : (s.enrol k g).Tallied := by
  obtain ⟨hs, hc, hcomplete⟩ := h
  have hput : ∀ p : Guest → Bool, guestCount (Table.put s.roster.guests k g) p
      = guestCount s.roster.guests p + (if p g then 1 else 0) := fun p => guestCount_put_free p hg.free
  have hout : (g.presence == .aboard) = false := by
    rw [hg.presence]
    rfl
  have hlisted : ((s.withRoster ⟨Table.put s.roster.guests k g, s.roster.enrolled + 1⟩).withTally
      { s.tally with expected := s.tally.expected + 1 }).Tallied := by
    refine ⟨hs.withRoster (Table.put_wf hs.1 k g), ⟨fun hb => absurd hb hg.part, ?_, fun q => ?_, fun y => ?_,
      fun y => ?_⟩, hcomplete⟩
    · refine Eq.trans ?_ (hput _).symm
      exact congrArg (· + 1) hc.enrolled
    · refine Eq.trans ?_ (hput _).symm
      rw [hg.presence]
      cases q with
      | expected => exact congrArg (· + 1) (hc.total .expected)
      | aboard => exact hc.total .aboard
      | ashore => exact hc.total .ashore
      | departed => exact hc.total .departed
    · refine (hc.aboardAt y).trans (Eq.trans ?_ (hput _).symm)
      simp [Guest.isAboardAt, hout]
      rfl
    · refine (hc.unmustered y).trans (congrArg (fun n => if s.mode.muster then n else 0) (Eq.trans ?_ (hput _).symm))
      simp [Guest.isMissing, hout]
      rfl
  have hsorted := hs.enrol k g
  refine hlisted.elsewhere hsorted ?_
  unfold State.enrol
  dsimp only
  rw [enterFolio_eq, enterCabin_eq]
  simp [ledger]

/-- The changes of the cabins and the folios lie beside the counts. -/
theorem Tallied.amend {k : Nat} {g h : Guest} (ht : s.Tallied) (ha : s.Amends k g h) : (s.amend k g h).Tallied := by
  have hcabin : (s.recabin k g.cabin h.cabin).Tallied := by
    refine ht.elsewhere (ht.1.recabin k _ _) ?_
    rw [recabin_eq]
    rfl
  have hfolio : ((s.recabin k g.cabin h.cabin).refolio g.folio h.folio).Tallied := by
    refine hcabin.elsewhere (hcabin.1.refolio _ _) ?_
    rw [refolio_eq]
    rfl
  have hfound : ((s.recabin k g.cabin h.cabin).refolio g.folio h.folio).guestAt k = some g := by
    rw [refolio_eq, recabin_eq]
    exact ha.found
  rw [amend_owners]
  exact (hfolio.restation hfound ha.presence ha.epoch).ofWatches _

/-- A guest who is not ABOARD leaves the enrolled count and one total (R50). -/
theorem Tallied.strikeOff {k : Nat} {g h : Guest} (b : Tally) (ht : s.Tallied) (hk : s.guestAt k = some h)
    (hp : h.presence = g.presence) (hg : g.presence ≠ .aboard) : (s.strikeOff k g b).Tallied := by
  have hsorted := ht.1.strikeOff k g b
  obtain ⟨hs, hc, hcomplete⟩ := ht
  obtain ⟨hat, hun, hepoch, hstations, hco⟩ := s.tally.mapTotal_keeps g.presence (· - 1)
  have herase : ∀ p : Guest → Bool, guestCount (Table.erase s.roster.guests k) p
      = guestCount s.roster.guests p - (if p h then 1 else 0) := fun p => guestCount_erase p hk
  have hout : (h.presence == .aboard) = false := beq_eq_false_iff_ne.2 (hp ▸ hg)
  have hstruck : ((s.withRoster ⟨Table.erase s.roster.guests k, s.roster.enrolled - 1⟩).withTally
      (s.tally.mapTotal g.presence (· - 1))).Tallied := by
    refine ⟨hs.withRoster (Table.erase_wf hs.1 k), ⟨fun hb => absurd (hc.blank hb) (Table.ne_nil_of_find hk), ?_,
      fun q => ?_, fun y => ?_, fun y => ?_⟩, ?_⟩
    · refine Eq.trans ?_ (herase _).symm
      exact congrArg (· - 1) hc.enrolled
    · rw [ledger_total]
      refine (Tally.ofPresence_mapTotal _ _ _ _).trans (Eq.trans ?_ (herase _).symm)
      rw [← s.ledger_total, hc.total, hp]
      cases g.presence == q <;> rfl
    · refine (congrArg (cell · y) hat).trans ((hc.aboardAt y).trans (Eq.trans ?_ (herase _).symm))
      simp [Guest.isAboardAt, hout]
      rfl
    · refine (congrArg (cell · y) hun).trans ((hc.unmustered y).trans ?_)
      show (if s.mode.muster then _ else 0) = (if s.mode.muster then guestCount (Table.erase s.roster.guests k)
        (fun g' => g'.isMissing (s.tally.mapTotal g.presence (· - 1)).epoch y) else 0)
      rw [hepoch, herase]
      simp [Guest.isMissing, hout]
      rfl
    · show (s.tally.mapTotal g.presence (· - 1)).complete
        = (s.mode.muster && (s.tally.mapTotal g.presence (· - 1)).completionHolds)
      rw [Tally.completionHolds, hun, hstations, hco]
      exact hcomplete
  refine hstruck.elsewhere hsorted ?_
  unfold State.strikeOff
  dsimp only
  rw [quitFolio_eq, quitCabin_eq]
  simp [ledger]

theorem kept_tallied : Kept State.Tallied where
  sorted h := h.1
  reset := tallied_reset
  quiet h ht := h.of_ledger ht
  part h hx := h.setPart hx
  scrub h _ hn := h.scrub hn
  vacate h _ := h.elsewhere h.1.vacate rfl
  cabin {_ i c} h _ := h.elsewhere (h.1.putCabin i c) rfl
  guest h hg hb := h.putGuest hg hb.presence hb.station hb.epoch
  folio {_ k _ y} h _ _ := h.elsewhere (h.1.putFolio k y) rfl
  openFolio {_ k _ _} h _ _ := h.elsewhere (h.1.putFolio k _) rfl
  freeFolio {_ k _} h _ _ := h.elsewhere (h.1.freeFolio k) rfl
  currencies h _ := h.elsewhere h.1 rfl
  clock h _ := h.elsewhere h.1 rfl
  startMuster h _ := h.startMuster
  endMuster h := h.endMuster
  stations w h := h.setStations w
  move h hg hq := h.movePresence hg hq
  muster h hg hm ha he := h.musterGuest hg hm ha he
  enrol h hg := h.enrol hg
  amend h ha := h.amend ha
  strikeOff b h hk _ _ hp hg := h.strikeOff b hk hp hg

end State

/-- Settles O54: the tallies are a property that every change of the ledger keeps. -/
theorem talliesStayExact : Obligations.TalliesStayExact := by
  unfold Obligations.TalliesStayExact
  intro s t h hstep
  exact talliesSound_iff.2 (State.kept_tallied.step (talliesSound_iff.1 h) hstep)

end Sys2Proof.Machine
end

section
/-! Every step keeps the member counts and the occupant lists exact (R56, R57, R76). -/

namespace Sys2Proof.Machine

namespace State

variable {s t : State}

/-! ### A change of cabin and a change of folio, entry by entry -/

/-- The change of cabin turns on the cabin unit alone. -/
theorem recabin_cabin (h : t.cabin = s.cabin) (k : Nat) (old new : Option Nat) :
    (t.recabin k old new).cabin = (s.recabin k old new).cabin := by
  unfold recabin
  split
  · exact h
  · have hquit := quitCabin_cabin (k := k) h old
    cases new with
    | none => exact hquit
    | some c => simp [enterCabin, appendOccupant, putCabin, cabinAt, hquit]

/-- The change of folio turns on the folio unit alone. -/
theorem refolio_folio (h : t.folio = s.folio) (old new : Option Nat) :
    (t.refolio old new).folio = (s.refolio old new).folio := by
  unfold refolio
  split
  · exact h
  · have hquit := quitFolio_folio h old
    cases new with
    | none => exact hquit
    | some a =>
      have hat : (t.quitFolio old).folioAt a = (s.quitFolio old).folioAt a := by rw [folioAt, folioAt, hquit]
      unfold enterFolio joinFolio
      dsimp only
      rw [hat]
      split
      · simp [putFolio, hquit]
      · exact hquit

theorem enterCabin_recabin (s : State) (new : Option Nat) (k : Nat) :
    s.enterCabin new k = s.recabin k none new := by cases new <;> rfl

theorem quitCabin_recabin (s : State) (old : Option Nat) (k : Nat) : s.quitCabin old k = s.recabin k old none := by
  cases old <;> rfl

theorem enterFolio_refolio (s : State) (new : Option Nat) : s.enterFolio new = s.refolio none new := by
  cases new <;> rfl

theorem quitFolio_refolio (s : State) (old : Option Nat) : s.quitFolio old = s.refolio old none := by
  cases old <;> rfl

/-- Both changes together. -/
theorem refolio_recabin (s : State) (k : Nat) (oldCabin newCabin oldFolio newFolio : Option Nat) :
    (s.recabin k oldCabin newCabin).refolio oldFolio newFolio = { s with
      cabin := (s.recabin k oldCabin newCabin).cabin
      folio := (s.refolio oldFolio newFolio).folio } := by
  have hsame : (s.recabin k oldCabin newCabin).folio = s.folio := by rw [recabin_eq]
  rw [refolio_eq, refolio_folio hsame, recabin_eq]

/-- What ENROL_GUEST leaves in the units. -/
theorem enrol_units (s : State) (k : Nat) (g : Guest) :
    (s.enrol k g).roster = ⟨Table.put s.roster.guests k g, s.roster.enrolled + 1⟩
      ∧ (s.enrol k g).cabin = (s.recabin k none g.cabin).cabin
      ∧ (s.enrol k g).folio = (s.refolio none g.folio).folio
      ∧ (s.enrol k g).clock = s.clock ∧ (s.enrol k g).tally.epoch = s.tally.epoch := by
  have hcabin := recabin_cabin (s := s)
    (t := s.withRoster { guests := Table.put s.roster.guests k g, enrolled := s.roster.enrolled + 1 })
    rfl k none g.cabin
  have hfolio := refolio_folio (s := s)
    (t := s.withRoster { guests := Table.put s.roster.guests k g, enrolled := s.roster.enrolled + 1 }) rfl none g.folio
  simp only [State.enrol, enterCabin_recabin, enterFolio_refolio, refolio_recabin]
  simp [hcabin, hfolio]

/-- What AMEND_GUEST leaves in the units. -/
theorem amend_units (s : State) (k : Nat) (g h : Guest) :
    (s.amend k g h).roster = { s.roster with guests := Table.put s.roster.guests k h }
      ∧ (s.amend k g h).cabin = (s.recabin k g.cabin h.cabin).cabin
      ∧ (s.amend k g h).folio = (s.refolio g.folio h.folio).folio
      ∧ (s.amend k g h).clock = s.clock ∧ (s.amend k g h).tally.epoch = s.tally.epoch := by
  rw [amend_owners, refolio_recabin]
  split
  · simp [State.putGuest, State.withRoster]
  · obtain ⟨-, hroster, hcabin, hfolio, -, hclock, hepoch⟩ := State.moveStation_keeps
      (({ s with cabin := (s.recabin k g.cabin h.cabin).cabin
                 folio := (s.refolio g.folio h.folio).folio } : State).putGuest k h) g h.station
    simp only [evaluateWatches_roster, evaluateWatches_cabin, evaluateWatches_folio, evaluateWatches_clock,
      evaluateWatches_tally_epoch]
    exact ⟨hroster, hcabin, hfolio, hclock, hepoch⟩

/-- What the end of RETIRE_GUEST leaves in the units. -/
theorem strikeOff_units (s : State) (k : Nat) (g : Guest) (b : Tally) :
    (s.strikeOff k g b).roster = ⟨Table.erase s.roster.guests k, s.roster.enrolled - 1⟩
      ∧ (s.strikeOff k g b).cabin = (s.recabin k g.cabin none).cabin
      ∧ (s.strikeOff k g b).folio = (s.refolio g.folio none).folio
      ∧ (s.strikeOff k g b).clock = s.clock ∧ (s.strikeOff k g b).tally.epoch = s.tally.epoch := by
  simp only [State.strikeOff, quitCabin_recabin, quitFolio_refolio, refolio_recabin]
  simp [Tally.mapTotal_keeps]

/-! ### The entries -/

theorem cabinAt_enterCabin (hw : Table.wf s.cabin.cabins) (new : Option Nat) (k c : Nat) :
    (s.enterCabin new k).cabinAt c
      = if new = some c then { s.cabinAt c with occupants := (s.cabinAt c).occupants ++ [k] } else s.cabinAt c := by
  cases new with
  | none => rfl
  | some d =>
    by_cases hd : d = c
    · subst hd
      rw [if_pos rfl]
      exact Table.findD_putD_self hw _ _ _
    · rw [if_neg (fun hc => hd (Option.some.inj hc))]
      exact Table.findD_putD_ne _ (Ne.symm hd) _ _

theorem cabinAt_recabin (hs : s.TablesSorted) {k : Nat} {old new : Option Nat} (hne : new ≠ old) (c : Nat) :
    (s.recabin k old new).cabinAt c
      = if old = some c then { s.cabinAt c with
          occupants := (s.cabinAt c).occupants.erase k
          privacy := (s.cabinAt c).privacy && !((s.cabinAt c).occupants.erase k).isEmpty }
        else if new = some c then { s.cabinAt c with occupants := (s.cabinAt c).occupants ++ [k] }
        else s.cabinAt c := by
  have hquit : Table.wf (s.quitCabin old k).cabin.cabins := ((CardsAs.refl hs).quitCabin old k).sorted.2.2.2.1
  rw [recabin, if_neg hne, cabinAt_enterCabin hquit]
  by_cases hold : old = some c
  · subst hold
    rw [if_neg hne, if_pos rfl, cabinAt_quitCabin_self hs.2.2.2.1]
  · rw [if_neg hold, cabinAt_quitCabin_ne hold]

theorem folioAt_enterFolio (new : Option Nat) (a : Nat) : (s.enterFolio new).folioAt a
    = if new = some a then (s.folioAt a).map (fun x => { x with members := x.members + 1 }) else s.folioAt a := by
  cases new with
  | none => rfl
  | some b =>
    unfold enterFolio joinFolio
    dsimp only
    by_cases hb : b = a
    · subst hb
      rw [if_pos rfl]
      split
      · rename_i x hx
        rw [hx]
        exact Table.find_put_self _ _ _
      · rename_i hx
        rw [hx]
        rfl
    · rw [if_neg (fun hc => hb (Option.some.inj hc))]
      split
      · exact Table.find_put_ne _ (Ne.symm hb) _
      · rfl

theorem folioAt_refolio (hs : s.TablesSorted) {old new : Option Nat} (hne : new ≠ old) (a : Nat) :
    (s.refolio old new).folioAt a = (s.folioAt a).bind fun x =>
      if old = some a then
        if x.state = .closed ∧ x.members - 1 = 0 then none else some { x with members := x.members - 1 }
      else if new = some a then some { x with members := x.members + 1 }
      else some x := by
  rw [refolio, if_neg hne, folioAt_enterFolio]
  by_cases hold : old = some a
  · subst hold
    rw [if_neg hne]
    cases hx : s.folioAt a with
    | some x => exact (folioAt_leaveFolio_self hs.2.2.1 hx).trans (by simp)
    | none =>
      unfold quitFolio leaveFolio
      simp [hx]
  · have hquit : (s.quitFolio old).folioAt a = s.folioAt a := by
      cases old with
      | none => rfl
      | some b => exact folioAt_leaveFolio_ne fun hb => hold (congrArg some hb.symm)
    rw [hquit]
    simp only [hold, if_false]
    split <;> cases s.folioAt a <;> rfl

/-! ### The assignments as lookups say them -/

/-- The cabin that the guest of an index has. -/
def cabinOf (s : State) (k : Nat) : Option Nat := (s.guestAt k).bind Guest.cabin

/-- The number of guests that name a folio. -/
def membersOf (s : State) (a : Nat) : Nat := guestCount s.roster.guests (fun g => g.folio == some a)

end State

/-- The entry of a folio that `n` guests name (R76). -/
def Folio.Serves (n : Nat) : Option Folio → Prop
  | none => n = 0
  | some x => x.members = n ∧ (x.state = .closed → n ≠ 0)

/-- The entry of a cabin that the guests of the indices `p` have (R56, R57). -/
structure Cabin.Houses (x : Cabin) (p : Nat → Prop) : Prop where
  nodup   : x.occupants.Nodup
  size    : x.occupants.length ≤ 6
  privacy : x.occupants = [] → x.privacy = false
  mem     : ∀ k, k ∈ x.occupants ↔ p k

namespace State

variable {s t : State}

/-- AssignmentsSound as lookups say it. -/
structure Assigned (s : State) : Prop where
  sorted  : s.TablesSorted
  members : ∀ a, Folio.Serves (s.membersOf a) (s.folioAt a)
  housed  : ∀ c, (s.cabinAt c).Houses (fun k => s.cabinOf k = some c)

theorem cabin_empty_houses {p : Nat → Prop} (hp : ∀ k, ¬ p k) : Cabin.empty.Houses p :=
  ⟨.nil, Nat.zero_le 6, fun _ => rfl, fun k => ⟨fun hk => absurd hk List.not_mem_nil, fun hk => absurd hk (hp k)⟩⟩

theorem membersOf_ne_zero_iff (hs : s.TablesSorted) {a : Nat} :
    s.membersOf a ≠ 0 ↔ ∃ k g, s.guestAt k = some g ∧ g.folio = some a := by
  rw [membersOf, guestCount, ← Nat.pos_iff_ne_zero, List.countP_pos_iff]
  constructor
  · rintro ⟨⟨k, g⟩, he, hg⟩
    exact ⟨k, g, (Table.mem_iff_find hs.1 k g).1 he, by simpa using hg⟩
  · rintro ⟨k, g, hk, hg⟩
    exact ⟨(k, g), Table.find_mem hk, by simpa using hg⟩

theorem membersExact_iff (hs : s.TablesSorted) :
    s.MembersExact ↔ ∀ a, Folio.Serves (s.membersOf a) (s.folioAt a) := by
  have hcount : ∀ a, s.countGuests (fun g => g.folio == some a) = s.membersOf a := fun a => countGuests_eq _ s
  constructor
  · rintro ⟨hfolios, hnamed⟩ a
    cases hx : s.folioAt a with
    | none =>
      show s.membersOf a = 0
      by_contra hn
      obtain ⟨k, g, hk, hg⟩ := (membersOf_ne_zero_iff hs).1 hn
      have hsome := hnamed _ (Table.find_mem hk) a hg
      rw [hx] at hsome
      cases hsome
    | some x =>
      obtain ⟨hmembers, hclosed⟩ := hfolios _ (Table.find_mem hx)
      rw [hcount] at hmembers
      exact ⟨hmembers, hmembers ▸ hclosed⟩
  · intro h
    refine ⟨fun e he => ?_, fun e he a ha => ?_⟩
    · obtain ⟨a, x⟩ := e
      have hx := (Table.mem_iff_find hs.2.2.1 a x).1 he
      have ha := h a
      rw [State.folioAt, hx] at ha
      obtain ⟨hmembers, hclosed⟩ := ha
      rw [hcount]
      exact ⟨hmembers, hmembers ▸ hclosed⟩
    · have hne := (membersOf_ne_zero_iff hs).2 ⟨_, _, (Table.mem_iff_find hs.1 e.1 e.2).1 he, ha⟩
      have hserves := h a
      cases hx : s.folioAt a with
      | none =>
        rw [hx] at hserves
        exact absurd hserves hne
      | some x => rfl

theorem occupantsExact_iff (hs : s.TablesSorted) :
    s.OccupantsExact ↔ ∀ c, (s.cabinAt c).Houses (fun k => s.cabinOf k = some c) := by
  constructor
  · rintro ⟨hnamed, hcabins⟩ c
    have hlisted : ∀ k, s.cabinOf k = some c → k ∈ (s.cabinAt c).occupants := fun k hk => by
      obtain ⟨g, hg, hc⟩ := Option.bind_eq_some_iff.1 hk
      exact hnamed _ (Table.find_mem hg) c hc
    by_cases hempty : s.cabinAt c = Cabin.empty
    · rw [hempty] at hlisted ⊢
      exact cabin_empty_houses fun k hk => List.not_mem_nil (hlisted k hk)
    · obtain ⟨hnodup, hsize, hprivacy, hmem⟩ := hcabins _ (Table.find_mem (Table.find_of_findD_ne hempty))
      exact ⟨hnodup, hsize, hprivacy, fun k => ⟨hmem k, hlisted k⟩⟩
  · intro h
    refine ⟨fun e he c hc => ((h c).mem e.1).2 ?_, fun e he => ?_⟩
    · exact Option.bind_eq_some_iff.2 ⟨e.2, (Table.mem_iff_find hs.1 e.1 e.2).1 he, hc⟩
    · obtain ⟨c, x⟩ := e
      have hx : s.cabinAt c = x := by
        rw [cabinAt, Table.findD, (Table.mem_iff_find hs.2.2.2.1 c x).1 he]
        rfl
      have hc := h c
      rw [hx] at hc
      exact ⟨hc.nodup, hc.size, hc.privacy, fun k hk => (hc.mem k).1 hk⟩

theorem assignmentsSound_iff : s.AssignmentsSound ↔ s.Assigned :=
  ⟨fun ⟨hs, hm, ho⟩ => ⟨hs, (membersExact_iff hs).1 hm, (occupantsExact_iff hs).1 ho⟩,
    fun h => ⟨h.sorted, (membersExact_iff h.sorted).2 h.members, (occupantsExact_iff h.sorted).2 h.housed⟩⟩

/-! ### What the changes do to the assignments -/

/-- What leaves the two units and the guests' assignments leaves the assignments exact. -/
theorem Assigned.same (h : s.Assigned) (hs : t.TablesSorted) (hcabins : t.cabin.cabins = s.cabin.cabins)
    (hfolios : t.folio.folios = s.folio.folios) (hcabin : ∀ k, t.cabinOf k = s.cabinOf k)
    (hmembers : ∀ a, t.membersOf a = s.membersOf a) : t.Assigned := by
  refine ⟨hs, fun a => ?_, fun c => ?_⟩
  · rw [hmembers, folioAt, hfolios]
    exact h.members a
  · rw [cabinAt, hcabins]
    simp only [hcabin]
    exact h.housed c

theorem Assigned.of_tables (h : s.Assigned) (ht : t.tables = s.tables) : t.Assigned := by
  have hguests : t.roster.guests = s.roster.guests := congrArg Tables.guests ht
  refine h.same (h.sorted.of_tables ht) (congrArg Tables.cabins ht) (congrArg Tables.folios ht)
    (fun k => ?_) fun a => ?_
  · rw [cabinOf, guestAt, hguests]
    rfl
  · rw [membersOf, hguests]
    rfl

theorem Assigned.of_ledger (h : s.Assigned) (ht : s.LedgerAs t) : t.Assigned := by
  obtain ⟨hs, hl⟩ := ht
  have hroster : t.roster = s.roster := congrArg Ledger.roster hl
  refine h.same hs (congrArg Ledger.cabins hl) (congrArg Ledger.folios hl) (fun k => ?_) fun a => ?_
  · rw [cabinOf, guestAt, hroster]
    rfl
  · rw [membersOf, hroster]
    rfl

/-- A folio whose members have become one fewer, or one more. -/
theorem serves_refolio {n : Nat} {x : Option Folio} (hx : Folio.Serves n x) {old new : Prop} [Decidable old]
    [Decidable new] (hne : ¬ (old ∧ new)) (hopen : new → x.isSome = true) :
    Folio.Serves (moved n (decide old) (decide new)) (x.bind fun x =>
      if old then if x.state = .closed ∧ x.members - 1 = 0 then none else some { x with members := x.members - 1 }
      else if new then some { x with members := x.members + 1 } else some x) := by
  cases x with
  | none =>
    have hnew : ¬ new := fun h => absurd (hopen h) Bool.false_ne_true
    obtain rfl : n = 0 := hx
    simp only [hnew, decide_false]
    by_cases hold : old
    · rw [decide_eq_true hold]
      rfl
    · rw [decide_eq_false hold]
      rfl
  | some x =>
    obtain ⟨rfl, hclosed⟩ := hx
    by_cases hold : old
    · have hnew : ¬ new := fun h => hne ⟨hold, h⟩
      simp only [hold, hnew, decide_true, decide_false, moved_out, if_true, Option.bind_some]
      split
      · rename_i hlast
        exact hlast.2
      · rename_i hlast
        exact ⟨rfl, fun hc hz => hlast ⟨hc, hz⟩⟩
    · by_cases hnew : new
      · simp only [hold, hnew, decide_true, decide_false, moved_in, if_true, if_false, Option.bind_some]
        exact ⟨rfl, fun _ => Nat.succ_ne_zero _⟩
      · simp only [hold, hnew, decide_false, moved_self, if_false, Option.bind_some]
        exact ⟨rfl, hclosed⟩

/-- A cabin that one guest leaves, or comes to, or neither. -/
theorem houses_recabin {x : Cabin} {p q : Nat → Prop} {k : Nat} {old new : Prop} [Decidable old] [Decidable new]
    (hx : x.Houses p) (hold : p k ↔ old) (hnew : q k ↔ new) (hother : ∀ j, j ≠ k → (q j ↔ p j)) (hne : ¬ (old ∧ new))
    (hroom : new → x.occupants.length < 6) :
    (if old then { x with
        occupants := x.occupants.erase k
        privacy := x.privacy && !(x.occupants.erase k).isEmpty }
      else if new then { x with occupants := x.occupants ++ [k] }
      else x).Houses q := by
  obtain ⟨hnodup, hsize, hprivacy, hmem⟩ := hx
  have hq : ∀ j, q j ↔ (if j = k then new else p j) := fun j => by
    split
    · rename_i hj
      rw [hj, hnew]
    · exact hother j ‹_›
  split
  · rename_i ho
    have hn : ¬ new := fun hn => hne ⟨ho, hn⟩
    refine ⟨hnodup.erase k, Nat.le_trans List.length_erase_le hsize, fun hz => ?_, fun j => ?_⟩
    · rw [show x.occupants.erase k = [] from hz]
      exact Bool.and_false _
    · rw [hq, hnodup.mem_erase_iff, hmem]
      by_cases hj : j = k <;> simp [hj, hn]
  · rename_i ho
    split
    · rename_i hn
      have hout : k ∉ x.occupants := fun hk => ho (hold.1 ((hmem k).1 hk))
      refine ⟨?_, ?_, fun hz => ?_, fun j => ?_⟩
      · exact List.nodup_append.2 ⟨hnodup, List.nodup_singleton k, fun a ha b hb hab =>
          hout (List.mem_singleton.1 hb ▸ hab ▸ ha)⟩
      · rw [List.length_append]
        exact hroom hn
      · exact absurd hz (List.append_ne_nil_of_right_ne_nil _ (List.cons_ne_nil k []))
      · rw [hq, List.mem_append, hmem]
        by_cases hj : j = k <;> simp [hj, hn]
    · rename_i hn
      refine ⟨hnodup, hsize, hprivacy, fun j => (hmem j).trans (Iff.trans ?_ (hq j).symm)⟩
      split
      · rename_i hj
        rw [hj, hold]
        exact ⟨fun hc => absurd hc ho, fun hc => absurd hc hn⟩
      · rfl

/-- One guest's assignments change together with the cabins and the folios. -/
theorem Assigned.reassigned {k : Nat} {oldCabin newCabin oldFolio newFolio : Option Nat} (h : s.Assigned)
    (hs : t.TablesSorted) (hcabins : t.cabin.cabins = (s.recabin k oldCabin newCabin).cabin.cabins)
    (hfolios : t.folio.folios = (s.refolio oldFolio newFolio).folio.folios) (hold : s.cabinOf k = oldCabin)
    (hnew : t.cabinOf k = newCabin) (hother : ∀ j, j ≠ k → t.cabinOf j = s.cabinOf j)
    (hmembers : ∀ a, t.membersOf a = moved (s.membersOf a) (oldFolio == some a) (newFolio == some a))
    (hroom : newCabin ≠ oldCabin → ∀ c ∈ newCabin, s.cabinHasRoom c)
    (hopen : newFolio ≠ oldFolio → ∀ a ∈ newFolio, s.folioOpen a) : t.Assigned := by
  refine ⟨hs, fun a => ?_, fun c => ?_⟩
  · have hat : t.folioAt a = (s.refolio oldFolio newFolio).folioAt a := by rw [folioAt, hfolios]; rfl
    rw [hmembers, hat]
    by_cases hne : newFolio = oldFolio
    · rw [hne, moved_self, refolio, if_pos rfl]
      exact h.members a
    · rw [folioAt_refolio h.sorted hne, beq_eq_decide, beq_eq_decide]
      refine serves_refolio (old := oldFolio = some a) (new := newFolio = some a) (h.members a)
        (fun ⟨ho, hn⟩ => hne (hn.trans ho.symm)) fun hn => ?_
      have hopened := hopen hne a hn
      cases hx : s.folioAt a with
      | none =>
        rw [folioOpen, hx] at hopened
        cases hopened
      | some x => rfl
  · have hat : t.cabinAt c = (s.recabin k oldCabin newCabin).cabinAt c := by rw [cabinAt, hcabins]; rfl
    rw [hat]
    by_cases hne : newCabin = oldCabin
    · have hsame : ∀ j, t.cabinOf j = s.cabinOf j := fun j => by
        by_cases hj : j = k
        · rw [hj, hnew, hold, hne]
        · exact hother j hj
      rw [recabin, if_pos hne]
      simp only [hsame]
      exact h.housed c
    · rw [cabinAt_recabin h.sorted hne]
      exact houses_recabin (old := oldCabin = some c) (new := newCabin = some c) (h.housed c) (by rw [hold])
        (by rw [hnew]) (fun j hj => by rw [hother j hj]) (fun ⟨ho, hn⟩ => hne (hn.trans ho.symm))
        (fun hn => hroom hne c hn)

end State

end Sys2Proof.Machine
end

section
/-! Every step keeps the member counts and the occupant lists exact (R56, R57, R76): the changes of the ledger. -/

namespace Sys2Proof.Machine

namespace State

variable {s t : State} {k : Nat} {g h : Guest}

theorem cabinOf_putGuest_self (s : State) (k : Nat) (h : Guest) : (s.putGuest k h).cabinOf k = h.cabin := by
  rw [cabinOf, show (s.putGuest k h).guestAt k = some h from Table.find_put_self _ _ _]
  rfl

theorem cabinOf_putGuest_ne (s : State) {j k : Nat} (hj : j ≠ k) (h : Guest) :
    (s.putGuest k h).cabinOf j = s.cabinOf j := congrArg (Option.bind · Guest.cabin) (Table.find_put_ne _ hj h)

theorem cabinOf_of_guestAt (hg : s.guestAt k = some g) : s.cabinOf k = g.cabin := by
  rw [cabinOf, hg]
  rfl

theorem membersOf_putGuest (hs : s.TablesSorted) (hg : s.guestAt k = some g) (h : Guest) (a : Nat) :
    (s.putGuest k h).membersOf a = moved (s.membersOf a) (g.folio == some a) (h.folio == some a) :=
  guestCount_put _ hs.1 hg

/-- A record that keeps its cabin and its folio. -/
theorem Assigned.putGuest (hs : s.Assigned) (hg : s.guestAt k = some g) (hc : h.cabin = g.cabin)
    (hf : h.folio = g.folio) : (s.putGuest k h).Assigned := by
  refine hs.same (hs.sorted.putGuest k h) rfl rfl (fun j => ?_) fun a => ?_
  · by_cases hj : j = k
    · rw [hj, cabinOf_putGuest_self, cabinOf_of_guestAt hg, hc]
    · exact cabinOf_putGuest_ne s hj h
  · rw [membersOf_putGuest hs.sorted hg, hf, moved_self]

theorem Assigned.startMuster (hs : s.Assigned) : s.startMuster.Assigned := by
  have hkeeps := Guest.clearEpoch_keeps (nextEpoch s.tally.epoch)
  have hbegun : s.musterBegun.Assigned := by
    refine hs.same hs.sorted.musterBegun rfl rfl (fun j => ?_) fun a => ?_
    · have hj : s.musterBegun.guestAt j = (s.guestAt j).map (Guest.clearEpoch (nextEpoch s.tally.epoch)) :=
        Table.find_mapRecords _ _ _
      rw [cabinOf, cabinOf, hj]
      cases s.guestAt j with
      | none => rfl
      | some g =>
        show (g.clearEpoch _).cabin = g.cabin
        rw [hkeeps]
    · exact (guestCount_mapRecords _ _).trans (guestCount_congr _ fun g => by rw [hkeeps])
  rw [startMuster_begun]
  exact hbegun.of_tables (by simp)

/-- A scrub leaves no guest, no folio and no occupant (R7). -/
theorem Assigned.scrub (hs : s.Assigned) (x : Store) : (s.withStore x).scrub.Assigned :=
  ⟨hs.sorted.scrub x, fun _ => rfl, fun _ => cabin_empty_houses fun _ h => nomatch h⟩

/-- Without guests no cabin is lost. -/
theorem Assigned.vacate (hs : s.Assigned) (hn : s.roster.guests = []) :
    (s.withCabin { s.cabin with cabins := [] }).Assigned := by
  refine ⟨hs.sorted.vacate, hs.members, fun c => cabin_empty_houses fun k hk => ?_⟩
  have hnone : s.cabinOf k = none := by
    rw [cabinOf, guestAt, hn]
    rfl
  cases hnone.symm.trans hk

theorem Assigned.putCabin {i : Nat} {c : Cabin} (hs : s.Assigned) (hc : (s.cabinAt i).Books c) :
    (s.putCabin i c).Assigned := by
  refine ⟨hs.sorted.putCabin i c, hs.members, fun j => ?_⟩
  by_cases hj : j = i
  · subst hj
    have hat : (s.putCabin j c).cabinAt j = c := Table.findD_putD_self hs.sorted.2.2.2.1 _ _ _
    obtain ⟨hnodup, hsize, hprivacy, hmem⟩ := hs.housed j
    rw [hat]
    refine ⟨hc.occupants ▸ hnodup, hc.occupants ▸ hsize, fun hz => ?_, hc.occupants ▸ hmem⟩
    rw [hc.occupants] at hz
    refine Bool.eq_false_iff.2 fun hp => ?_
    cases hc.privacy hp with
    | inl hold => exact absurd hold (Bool.eq_false_iff.1 (hprivacy hz))
    | inr hsome => exact hsome hz
  · have hat : (s.putCabin i c).cabinAt j = s.cabinAt j := Table.findD_putD_ne _ hj _ _
    rw [hat]
    exact hs.housed j

/-- One folio's entry changes, and still fits the guests that name it. -/
theorem Assigned.ofFolios (hs : s.Assigned) (ht : t.TablesSorted) (hr : t.roster = s.roster) (hc : t.cabin = s.cabin)
    (hk : Folio.Serves (s.membersOf k) (t.folioAt k)) (hother : ∀ a, a ≠ k → t.folioAt a = s.folioAt a) :
    t.Assigned := by
  have hcount : ∀ a, t.membersOf a = s.membersOf a := fun a => by rw [membersOf, membersOf, hr]
  have hcabin : ∀ j, t.cabinOf j = s.cabinOf j := fun j => by rw [cabinOf, cabinOf, guestAt, guestAt, hr]
  refine ⟨ht, fun a => ?_, fun c => ?_⟩
  · rw [hcount]
    by_cases ha : a = k
    · exact ha ▸ hk
    · exact hother a ha ▸ hs.members a
  · have hat : t.cabinAt c = s.cabinAt c := by rw [cabinAt, cabinAt, hc]
    rw [hat]
    simp only [hcabin]
    exact hs.housed c

theorem Assigned.putFolio {x y : Folio} (hs : s.Assigned) (hx : s.folioAt k = some x) (hy : x.Books y) :
    (s.putFolio k y).Assigned := by
  refine hs.ofFolios (k := k) (hs.sorted.putFolio k y) rfl rfl ?_ fun a ha => Table.find_put_ne _ ha y
  have hk := hs.members k
  rw [hx] at hk
  obtain ⟨hmembers, hclosed⟩ := hk
  rw [show (s.putFolio k y).folioAt k = some y from Table.find_put_self _ _ _]
  refine ⟨hy.members.trans hmembers, fun hc => ?_⟩
  cases hy.closed hc with
  | inl hold => exact hclosed hold
  | inr hsome => exact hmembers ▸ hsome

theorem Assigned.openFolio (hs : s.Assigned) (hx : s.folioAt k = none) (number credit : Nat) :
    (s.putFolio k (Folio.fresh number credit)).Assigned := by
  refine hs.ofFolios (k := k) (hs.sorted.putFolio k _) rfl rfl ?_ fun a ha => Table.find_put_ne _ ha _
  have hk := hs.members k
  rw [hx] at hk
  rw [show (s.putFolio k (Folio.fresh number credit)).folioAt k = some _ from Table.find_put_self _ _ _]
  exact ⟨Eq.symm hk, fun hc => nomatch hc⟩

theorem Assigned.freeFolio {x : Folio} (hs : s.Assigned) (hx : s.folioAt k = some x) (hm : x.members = 0) :
    (s.freeFolio k).Assigned := by
  refine hs.ofFolios (k := k) (hs.sorted.freeFolio k) rfl rfl ?_ fun a ha => Table.find_erase_ne _ ha
  have hk := hs.members k
  rw [hx] at hk
  rw [show (s.freeFolio k).folioAt k = none from Table.find_erase_self hs.sorted.2.2.1 k]
  exact hk.1.symm.trans hm

/-! ### A guest comes, changes and goes -/

theorem Assigned.enrol (hs : s.Assigned) (hg : s.Enrols k g) : (s.enrol k g).Assigned := by
  obtain ⟨hroster, hcabin, hfolio, -, -⟩ := s.enrol_units k g
  have hguests : (s.enrol k g).roster.guests = (s.putGuest k g).roster.guests := by
    rw [hroster]
    rfl
  refine hs.reassigned (k := k) (hs.sorted.enrol k g) (congrArg _ hcabin) (congrArg _ hfolio) ?_ ?_ (fun j hj => ?_)
    (fun a => ?_) (fun _ => hg.cabin) (fun _ => hg.folio)
  · rw [cabinOf, hg.free]
    rfl
  · rw [cabinOf, guestAt, hguests]
    exact cabinOf_putGuest_self s k g
  · rw [cabinOf, guestAt, hguests]
    exact cabinOf_putGuest_ne s hj g
  · rw [membersOf, hguests]
    refine (guestCount_put_free _ hg.free).trans ?_
    rw [show ((none : Option Nat) == some a) = false from rfl]
    cases g.folio == some a <;> rfl

theorem Assigned.amend (hs : s.Assigned) (ha : s.Amends k g h) : (s.amend k g h).Assigned := by
  obtain ⟨hroster, hcabin, hfolio, -, -⟩ := s.amend_units k g h
  have hguests : (s.amend k g h).roster.guests = (s.putGuest k h).roster.guests := congrArg Roster.guests hroster
  refine hs.reassigned (k := k) (hs.sorted.amend ha) (congrArg _ hcabin) (congrArg _ hfolio) ?_ ?_ (fun j hj => ?_)
    (fun a => ?_) ha.cabin ha.folio
  · exact cabinOf_of_guestAt ha.found
  · rw [cabinOf, guestAt, hguests]
    exact cabinOf_putGuest_self s k h
  · rw [cabinOf, guestAt, hguests]
    exact cabinOf_putGuest_ne s hj h
  · rw [membersOf, hguests]
    exact membersOf_putGuest hs.sorted ha.found h a

theorem Assigned.strikeOff (b : Tally) (hs : s.Assigned) (hk : s.guestAt k = some h)
    (hc : h.cabin = g.cabin) (hf : h.folio = g.folio) : (s.strikeOff k g b).Assigned := by
  obtain ⟨hroster, hcabin, hfolio, -, -⟩ := s.strikeOff_units k g b
  have hguests : (s.strikeOff k g b).roster.guests = Table.erase s.roster.guests k := congrArg Roster.guests hroster
  refine hs.reassigned (k := k) (hs.sorted.strikeOff k g b) (congrArg _ hcabin) (congrArg _ hfolio) ?_ ?_
    (fun j hj => ?_) (fun a => ?_) (fun _ c hc => nomatch hc) (fun _ a ha => nomatch ha)
  · rw [cabinOf_of_guestAt hk, hc]
  · rw [cabinOf, guestAt, hguests, Table.find_erase_self hs.sorted.1]
    rfl
  · rw [cabinOf, guestAt, hguests, Table.find_erase_ne _ hj]
    rfl
  · rw [membersOf, hguests]
    refine (guestCount_erase _ hk).trans ?_
    rw [hf, show ((none : Option Nat) == some a) = false from rfl]
    cases g.folio == some a <;> rfl

theorem kept_assigned : Kept State.Assigned where
  sorted h := h.sorted
  reset := assignmentsSound_iff.1 reset_assignmentsSound
  quiet h ht := h.of_ledger ht
  part h _ := h.same h.sorted rfl rfl (fun _ => rfl) fun _ => rfl
  scrub {_ x} h _ _ := h.scrub x
  vacate h hn := h.vacate hn
  cabin h hc := h.putCabin hc
  guest h hg hb := h.putGuest hg hb.cabin hb.folio
  folio h hx hy := h.putFolio hx hy
  openFolio {_ _ number credit} h hx _ := h.openFolio hx number credit
  freeFolio h hx hm := h.freeFolio hx hm
  currencies h _ := h.same h.sorted rfl rfl (fun _ => rfl) fun _ => rfl
  clock h _ := h.same h.sorted rfl rfl (fun _ => rfl) fun _ => rfl
  startMuster h _ := h.startMuster
  endMuster {s} h := h.of_tables (tables_endMuster s)
  stations {s} w h := h.of_tables (tables_setStations s w)
  move {s k g q} h hg _ := (h.putGuest hg (h := { g with presence := q }) rfl rfl).of_tables
    (tables_movePresence s k g q)
  muster {s k g} h hg _ _ _ :=
    (h.putGuest hg (h := { g with epoch := s.tally.epoch }) rfl rfl).of_tables (by simp [State.musterGuest])
  enrol h hg := h.enrol hg
  amend h ha := h.amend ha
  strikeOff b h hk hc hf _ _ := h.strikeOff b hk hc hf

end State

end Sys2Proof.Machine
end

section
/-! Every step keeps the guests in range and the keys distinct (R37, R75, R82, R114, R147). -/

namespace Sys2Proof.Machine

/-! ### Keys of a table -/

namespace Table

variable {α β : Type} {t u : Table α} {f : α → β}

/-- No two records of a table have the same key. -/
def Distinct (t : Table α) (f : α → β) : Prop :=
  ∀ j k a b, Table.find t j = some a → Table.find t k = some b → f a = f b → j = k

theorem nodup_map_iff (hw : Table.wf t) : (t.map (fun e => f e.2)).Nodup ↔ Distinct t f := by
  have hkeys : ∀ x ∈ t, ∀ y ∈ t, x.1 = y.1 → x = y := by
    rintro ⟨j, a⟩ hx ⟨k, b⟩ hy hjk
    have hjk : j = k := hjk
    subst hjk
    have ha := (Table.mem_iff_find hw j a).1 hx
    have hb := (Table.mem_iff_find hw j b).1 hy
    rw [Option.some.inj (ha.symm.trans hb)]
  rw [List.nodup_map_iff_inj_on (List.Pairwise.imp (fun h heq => absurd (congrArg Prod.fst heq) h.ne)
    (List.pairwise_map.1 hw))]
  constructor
  · intro h j k a b ha hb hf
    exact congrArg Prod.fst (h _ (Table.find_mem ha) _ (Table.find_mem hb) hf)
  · intro h x hx y hy hf
    exact hkeys x hx y hy (h _ _ _ _ ((Table.mem_iff_find hw x.1 x.2).1 hx) ((Table.mem_iff_find hw y.1 y.2).1 hy) hf)

theorem distinct_nil : Distinct ([] : Table α) f := fun _ _ _ _ h => nomatch h

/-- Every record of the new table has the key of the old table's record. -/
theorem Distinct.of_find (h : Distinct t f)
    (hsub : ∀ k b, Table.find u k = some b → ∃ a, Table.find t k = some a ∧ f b = f a) : Distinct u f := by
  intro j k a b ha hb hf
  obtain ⟨a', ha', hfa⟩ := hsub j a ha
  obtain ⟨b', hb', hfb⟩ := hsub k b hb
  exact h j k a' b' ha' hb' (hfa.symm.trans (hf.trans hfb))

theorem Distinct.put {k : Nat} {b : α} (h : Distinct t f)
    (hb : ∀ j a, j ≠ k → Table.find t j = some a → f a ≠ f b) : Distinct (Table.put t k b) f := by
  have hother : ∀ {j a}, j ≠ k → Table.find (Table.put t k b) j = some a → Table.find t j = some a := fun hj ha =>
    (Table.find_put_ne t hj b).symm.trans ha
  have hself : ∀ {a}, Table.find (Table.put t k b) k = some a → a = b := fun ha =>
    Option.some.inj (ha.symm.trans (Table.find_put_self t k b))
  intro i j a c ha hc hf
  by_cases hi : i = k
  · by_cases hj : j = k
    · exact hi.trans hj.symm
    · subst hi
      exact absurd (hf.symm.trans (congrArg f (hself ha))) (hb j c hj (hother hj hc))
  · by_cases hj : j = k
    · subst hj
      exact absurd (hf.trans (congrArg f (hself hc))) (hb i a hi (hother hi ha))
    · exact h i j a c (hother hi ha) (hother hj hc) hf

/-- The record `b` has the key of the record in whose place it stands. -/
theorem Distinct.put_same {k : Nat} {a b : α} (h : Distinct t f) (ha : Table.find t k = some a) (hf : f b = f a) :
    Distinct (Table.put t k b) f :=
  h.put fun j c hj hc hcb => hj (h j k c a hc ha (hcb.trans hf))

end Table

/-! ### The ranges as lookups say them -/

/-- The ranges of one guest's record (R37, R114). -/
structure Guest.InRange (c : Clock) (g : Guest) : Prop where
  reference : 1 ≤ g.reference
  dayLimit  : ∀ l ∈ g.dayLimit, l ≤ Config.greatestLimit
  spendDay  : g.spendDay ≤ 999
  spent     : g.spent ≤ 12000000
  epoch     : g.epoch ≤ 255
  lastPass  : ∀ l ∈ g.lastPass, l ≤ c.voyage

theorem Guest.Books.inRange {c : Clock} {g h : Guest} (hb : g.Books c h) (hc : c.InRange)
    (hg : g.InRange c) : h.InRange c := by
  obtain ⟨-, -, -, hday, -⟩ := hc
  refine ⟨hb.reference ▸ hg.reference, hb.dayLimit ▸ hg.dayLimit, ?_, ?_, hb.epoch ▸ hg.epoch, fun l hl => ?_⟩
  · cases hb.spendDay with
    | inl hold => exact hold ▸ hg.spendDay
    | inr hnew => exact hnew ▸ hday
  · cases hb.spent with
    | inl hold => exact hold ▸ hg.spent
    | inr hnew => exact hnew
  · cases hb.lastPass with
    | inl hold => exact hg.lastPass l (hold ▸ hl)
    | inr hnew =>
      rw [hnew] at hl
      exact (Option.some.inj hl).ge

namespace State

variable {s t : State} {k : Nat} {g h : Guest}

/-- RangesSound as lookups say it. -/
structure Ranged (s : State) : Prop where
  sorted     : s.TablesSorted
  clock      : s.clock.InRange
  epoch      : s.tally.epoch ≤ 255
  guests     : ∀ k g, s.guestAt k = some g → g.InRange s.clock
  references : Table.Distinct s.roster.guests Guest.reference
  numbers    : Table.Distinct s.folio.folios Folio.number
  ship       : s.ShipCurrencyFixed

theorem rangesSound_iff : s.RangesSound ↔ s.Ranged := by
  constructor
  · rintro ⟨hs, hclock, ⟨hepoch, hguests⟩, ⟨hreferences, hnumbers⟩, hship⟩
    refine ⟨hs, hclock, hepoch, fun k g hg => ?_, (Table.nodup_map_iff hs.1).1 hreferences,
      (Table.nodup_map_iff hs.2.2.1).1 hnumbers, hship⟩
    obtain ⟨hreference, hlimit, hday, hspent, hepoch, hpass⟩ := hguests _ (Table.find_mem hg)
    exact ⟨hreference, hlimit, hday, hspent, hepoch, hpass⟩
  · rintro ⟨hs, hclock, hepoch, hguests, hreferences, hnumbers, hship⟩
    refine ⟨hs, hclock, ⟨hepoch, fun e he => ?_⟩, ⟨(Table.nodup_map_iff hs.1).2 hreferences,
      (Table.nodup_map_iff hs.2.2.1).2 hnumbers⟩, hship⟩
    obtain ⟨hreference, hlimit, hday, hspent, hepoch, hpass⟩ := hguests e.1 e.2 ((Table.mem_iff_find hs.1 e.1 e.2).1 he)
    exact ⟨hreference, hlimit, hday, hspent, hepoch, hpass⟩

theorem findReference_none {reference : Nat} (h : s.findReference reference = none) {j : Nat} {a : Guest}
    (ha : s.guestAt j = some a) : a.reference ≠ reference := by
  simpa using List.find?_eq_none.1 h _ (Table.find_mem ha)

theorem findNumber_none {number : Nat} (h : s.findNumber number = none) {j : Nat} {x : Folio}
    (hx : s.folioAt j = some x) : x.number ≠ number := by
  simpa using List.find?_eq_none.1 h _ (Table.find_mem hx)

/-! ### What the changes do to the ranges -/

/-- What the ranges are read from stays. -/
theorem Ranged.same (h : s.Ranged) (hs : t.TablesSorted) (hclock : t.clock = s.clock)
    (hepoch : t.tally.epoch = s.tally.epoch) (hguests : t.roster.guests = s.roster.guests)
    (hfolio : t.folio = s.folio) : t.Ranged :=
  ⟨hs, hclock ▸ h.clock, hepoch ▸ h.epoch, fun k g hg => hclock ▸ h.guests k g (by rwa [guestAt, ← hguests]),
    hguests ▸ h.references, hfolio ▸ h.numbers, show cell t.folio.currencies 0 = _ from hfolio ▸ h.ship⟩

theorem Ranged.of_ledger (h : s.Ranged) (ht : s.LedgerAs t) : t.Ranged := by
  obtain ⟨hs, hl⟩ := ht
  have hclock : t.clock = s.clock := congrArg Ledger.clock hl
  have hepoch : t.tally.epoch = s.tally.epoch := congrArg Ledger.epoch hl
  have hroster : t.roster = s.roster := congrArg Ledger.roster hl
  have hfolios : t.folio.folios = s.folio.folios := congrArg Ledger.folios hl
  have hcurrencies : t.folio.currencies = s.folio.currencies := congrArg Ledger.currencies hl
  refine ⟨hs, hclock ▸ h.clock, hepoch ▸ h.epoch, fun k g hg => hclock ▸ h.guests k g (by rwa [guestAt, ← hroster]),
    hroster ▸ h.references, hfolios ▸ h.numbers, ?_⟩
  rw [ShipCurrencyFixed, hcurrencies]
  exact h.ship

theorem Ranged.scrub (h : s.Ranged) (x : Store) : (s.withStore x).scrub.Ranged := by
  refine ⟨h.sorted.scrub x, h.clock, ?_, fun k g hg => (nomatch hg), Table.distinct_nil, Table.distinct_nil, h.ship⟩
  show (if s.mode.muster then s.tally.epoch else 0) ≤ 255
  split
  · exact h.epoch
  · exact Nat.zero_le _

/-- One record changes, in range and with a key of its own. -/
theorem Ranged.putGuest (hs : s.Ranged) (hh : h.InRange s.clock)
    (hkey : ∀ j a, j ≠ k → s.guestAt j = some a → a.reference ≠ h.reference) : (s.putGuest k h).Ranged := by
  refine ⟨hs.sorted.putGuest k h, hs.clock, hs.epoch, fun j a ha => ?_, hs.references.put hkey, hs.numbers, hs.ship⟩
  by_cases hj : j = k
  · subst hj
    rw [← Option.some.inj ((Table.find_put_self _ _ _).symm.trans ha)]
    exact hh
  · exact hs.guests j a ((Table.find_put_ne _ hj h).symm.trans ha)

theorem Ranged.putGuest_same (hs : s.Ranged) (hg : s.guestAt k = some g) (hr : h.reference = g.reference)
    (hh : h.InRange s.clock) : (s.putGuest k h).Ranged :=
  hs.putGuest hh fun j a hj ha heq => hj (hs.references j k a g ha hg (heq.trans hr))

theorem Ranged.movePresence (hs : s.Ranged) (hg : s.guestAt k = some g) (q : Presence) :
    (s.movePresence k g q).Ranged := by
  obtain ⟨hreference, hlimit, hday, hspent, hepoch, hpass⟩ := hs.guests k g hg
  have hput := hs.putGuest_same (h := { g with presence := q }) hg rfl ⟨hreference, hlimit, hday, hspent, hepoch, hpass⟩
  have ht := tables_movePresence s k g q
  refine hput.same (hput.sorted.of_tables ht) ?_ (movePresence_epoch s k g q) (congrArg Tables.guests ht) ?_
  · simp only [State.movePresence]
    split <;> simp
  · simp only [State.movePresence]
    split <;> simp

theorem Ranged.musterGuest (hs : s.Ranged) (hg : s.guestAt k = some g) : (s.musterGuest k g).Ranged := by
  obtain ⟨hreference, hlimit, hday, hspent, -, hpass⟩ := hs.guests k g hg
  have hput := hs.putGuest_same (h := { g with epoch := s.tally.epoch }) hg rfl
    ⟨hreference, hlimit, hday, hspent, hs.epoch, hpass⟩
  exact hput.same (hs.sorted.musterGuest k g) (by simp [State.musterGuest])
    (by simp [State.musterGuest, Tally.mapUnmustered])
    (by simp [State.musterGuest]) (by simp [State.musterGuest])

theorem nextEpoch_le {e : Nat} (he : e ≤ 255) : nextEpoch e ≤ 255 := by
  unfold nextEpoch
  split <;> omega

theorem Ranged.startMuster (hs : s.Ranged) : s.startMuster.Ranged := by
  have hkeeps := Guest.clearEpoch_keeps (nextEpoch s.tally.epoch)
  have hfind : ∀ k b, s.musterBegun.guestAt k = some b →
      ∃ a, s.guestAt k = some a ∧ a.clearEpoch (nextEpoch s.tally.epoch) = b := fun k b hb => by
    rw [show s.musterBegun.guestAt k = (s.guestAt k).map (Guest.clearEpoch (nextEpoch s.tally.epoch)) from
      Table.find_mapRecords _ _ _] at hb
    exact Option.map_eq_some_iff.1 hb
  have hbegun : s.musterBegun.Ranged := by
    refine ⟨hs.sorted.musterBegun, hs.clock, nextEpoch_le hs.epoch, fun k b hb => ?_,
      hs.references.of_find fun k b hb => ?_, hs.numbers, hs.ship⟩
    · obtain ⟨a, ha, rfl⟩ := hfind k b hb
      obtain ⟨hreference, hlimit, hday, hspent, hepoch, hpass⟩ := hs.guests k a ha
      have hle : (a.clearEpoch (nextEpoch s.tally.epoch)).epoch ≤ 255 := by
        unfold Guest.clearEpoch
        split
        · exact Nat.zero_le _
        · exact hepoch
      rw [hkeeps]
      exact ⟨hreference, hlimit, hday, hspent, hle, hpass⟩
    · obtain ⟨a, ha, rfl⟩ := hfind k b hb
      exact ⟨a, ha, by rw [hkeeps]⟩
  rw [startMuster_begun]
  exact hbegun.same (hbegun.sorted.of_tables (by simp)) (by simp) (by simp) (by simp) (by simp)

theorem Ranged.endMuster (hs : s.Ranged) : s.endMuster.Ranged :=
  hs.same hs.sorted.endMuster (by simp [State.endMuster]) (by simp [State.endMuster]) (by simp [State.endMuster])
    (by simp [State.endMuster])

theorem Ranged.setStations (hs : s.Ranged) (w : BitVec 16) : (s.setStations w).Ranged := by
  have ht := tables_setStations s w
  refine hs.same (hs.sorted.setStations w) ?_ ?_ (congrArg Tables.guests ht) ?_
  all_goals
    unfold State.setStations
    dsimp only
    split <;> simp

/-- The clock goes on. -/
theorem Ranged.withClock {c : Clock} (hs : s.Ranged) (hc : s.clock.Advances c) : (s.withClock c).Ranged := by
  obtain ⟨hle, hrange⟩ := hc
  refine ⟨hs.sorted, hrange hs.clock, hs.epoch, fun k g hg => ?_, hs.references, hs.numbers, hs.ship⟩
  obtain ⟨hreference, hlimit, hday, hspent, hepoch, hpass⟩ := hs.guests k g hg
  exact ⟨hreference, hlimit, hday, hspent, hepoch, fun l hl => Nat.le_trans (hpass l hl) hle⟩

theorem Ranged.openFolio {number : Nat} (hs : s.Ranged) (hn : s.findNumber number = none) (credit : Nat) :
    (s.putFolio k (Folio.fresh number credit)).Ranged :=
  ⟨hs.sorted.putFolio k _, hs.clock, hs.epoch, hs.guests, hs.references,
    hs.numbers.put fun _ _ _ hx => findNumber_none hn hx, hs.ship⟩

theorem Ranged.putFolio {x y : Folio} (hs : s.Ranged) (hx : s.folioAt k = some x) (hy : y.number = x.number) :
    (s.putFolio k y).Ranged :=
  ⟨hs.sorted.putFolio k y, hs.clock, hs.epoch, hs.guests, hs.references, hs.numbers.put_same hx hy, hs.ship⟩

/-- A table from which a record has gone. -/
theorem find_of_find_erase {α : Type} {t : Table α} (hw : Table.wf t) {j k : Nat} {b : α}
    (hb : Table.find (Table.erase t k) j = some b) : Table.find t j = some b := by
  by_cases hj : j = k
  · subst hj
    cases (Table.find_erase_self hw j).symm.trans hb
  · exact (Table.find_erase_ne t hj).symm.trans hb

theorem Ranged.freeFolio (hs : s.Ranged) (k : Nat) : (s.freeFolio k).Ranged :=
  ⟨hs.sorted.freeFolio k, hs.clock, hs.epoch, hs.guests, hs.references,
    hs.numbers.of_find fun _ b hb => ⟨b, find_of_find_erase hs.sorted.2.2.1 hb, rfl⟩, hs.ship⟩

/-! ### A guest comes, changes and goes -/

/-- A change of folio changes no folio's number, and no currency. -/
theorem refolio_keeps (hs : s.Ranged) (old new : Option Nat) :
    Table.Distinct (s.refolio old new).folio.folios Folio.number ∧ (s.refolio old new).ShipCurrencyFixed := by
  by_cases hne : new = old
  · rw [refolio, if_pos hne]
    exact ⟨hs.numbers, hs.ship⟩
  · refine ⟨hs.numbers.of_find fun a y hy => ?_, ?_⟩
    · have hat := (folioAt_refolio hs.sorted hne a).symm.trans hy
      obtain ⟨x, hx, hxy⟩ := Option.bind_eq_some_iff.1 hat
      refine ⟨x, hx, ?_⟩
      split_ifs at hxy <;> rw [← Option.some.inj hxy]
    · have hjoin : ∀ (t : State) (a : Option Nat), (t.enterFolio a).folio.currencies = t.folio.currencies :=
        fun t a => by
          cases a with
          | none => rfl
          | some a =>
            unfold enterFolio joinFolio
            dsimp only
            split <;> rfl
      rw [ShipCurrencyFixed, refolio, if_neg hne, hjoin, (s.quitFolio_outlets old).2]
      exact hs.ship

/-- The units after one guest's record and assignments have changed. -/
theorem Ranged.reassigned {old new : Option Nat} (hs : s.Ranged) (ht : t.TablesSorted) (hclock : t.clock = s.clock)
    (hepoch : t.tally.epoch = s.tally.epoch) (hfolio : t.folio = (s.refolio old new).folio)
    (hguests : ∀ k g, Table.find t.roster.guests k = some g → g.InRange s.clock)
    (hreferences : Table.Distinct t.roster.guests Guest.reference) : t.Ranged := by
  obtain ⟨hnumbers, hship⟩ := refolio_keeps hs old new
  refine ⟨ht, hclock ▸ hs.clock, hepoch ▸ hs.epoch, fun k g hg => hclock ▸ hguests k g hg, hreferences,
    hfolio ▸ hnumbers, ?_⟩
  rw [ShipCurrencyFixed, hfolio]
  exact hship

theorem Ranged.enrol (hs : s.Ranged) (hg : s.Enrols k g) : (s.enrol k g).Ranged := by
  obtain ⟨hroster, -, hfolio, hclock, hepoch⟩ := s.enrol_units k g
  obtain ⟨hpos, hfree⟩ := hg.reference
  obtain ⟨-, -, -, hday, -⟩ := hs.clock
  have hrange : g.InRange s.clock := by
    refine ⟨Nat.pos_of_ne_zero hpos, hg.dayLimit, hg.spendDay ▸ hday, hg.spent ▸ Nat.zero_le _,
      hg.epoch ▸ Nat.zero_le _, fun l hl => ?_⟩
    rw [hg.lastPass] at hl
    cases hl
  have hput : (s.putGuest k g).Ranged := hs.putGuest hrange fun _ _ _ ha => findReference_none hfree ha
  refine hs.reassigned (hs.sorted.enrol k g) hclock hepoch hfolio ?_ ?_
  · rw [hroster]
    exact hput.guests
  · rw [hroster]
    exact hput.references

theorem Ranged.amend (hs : s.Ranged) (ha : s.Amends k g h) : (s.amend k g h).Ranged := by
  obtain ⟨hroster, -, hfolio, hclock, hepoch⟩ := s.amend_units k g h
  have hg := hs.guests k g ha.found
  have hrange : h.InRange s.clock := by
    refine ⟨?_, ?_, ha.spendDay ▸ hg.spendDay, ha.spent ▸ hg.spent, ha.epoch ▸ hg.epoch, ha.lastPass ▸ hg.lastPass⟩
    · by_cases hr : h.reference = g.reference
      · exact hr ▸ hg.reference
      · exact Nat.pos_of_ne_zero (ha.reference hr).1
    · cases ha.dayLimit with
      | inl hold => exact hold ▸ hg.dayLimit
      | inr hnew => exact hnew
  have hput : (s.putGuest k h).Ranged := by
    by_cases hr : h.reference = g.reference
    · exact hs.putGuest_same ha.found hr hrange
    · exact hs.putGuest hrange fun _ _ _ hj => findReference_none (ha.reference hr).2 hj
  refine hs.reassigned (hs.sorted.amend ha) hclock hepoch hfolio ?_ ?_
  · rw [hroster]
    exact hput.guests
  · rw [hroster]
    exact hput.references

theorem Ranged.strikeOff (hs : s.Ranged) (k : Nat) (g : Guest) (b : Tally) : (s.strikeOff k g b).Ranged := by
  obtain ⟨hroster, -, hfolio, hclock, hepoch⟩ := s.strikeOff_units k g b
  have hfind : ∀ j a, Table.find (s.strikeOff k g b).roster.guests j = some a → s.guestAt j = some a := fun j a ha => by
    rw [hroster] at ha
    exact find_of_find_erase hs.sorted.1 ha
  exact hs.reassigned (hs.sorted.strikeOff k g b) hclock hepoch hfolio (fun j a ha => hs.guests j a (hfind j a ha))
    (hs.references.of_find fun j a ha => ⟨a, hfind j a ha, rfl⟩)

theorem kept_ranged : Kept State.Ranged where
  sorted h := h.sorted
  reset := rangesSound_iff.1 reset_rangesSound
  quiet h ht := h.of_ledger ht
  part h _ := h.same h.sorted rfl rfl rfl rfl
  scrub {_ x} h _ _ := h.scrub x
  vacate h _ := h.same h.sorted.vacate rfl rfl rfl rfl
  cabin {_ i c} h _ := h.same (h.sorted.putCabin i c) rfl rfl rfl rfl
  guest {_ k g _} h hg hb := h.putGuest_same hg hb.reference (hb.inRange h.clock (h.guests k g hg))
  folio h hx hy := h.putFolio hx hy.number
  openFolio {_ _ _ credit} h _ hn := h.openFolio hn credit
  freeFolio {_ k _} h _ _ := h.freeFolio k
  currencies h hv := ⟨h.sorted, h.clock, h.epoch, h.guests, h.references, h.numbers, hv h.ship⟩
  clock h hc := h.withClock hc
  startMuster h _ := h.startMuster
  endMuster h := h.endMuster
  stations w h := h.setStations w
  move {_ _ _ q} h hg _ := h.movePresence hg q
  muster h hg _ _ _ := h.musterGuest hg
  enrol h hg := h.enrol hg
  amend h ha := h.amend ha
  strikeOff {_ k g _} b h _ _ _ _ _ := h.strikeOff k g b

end State

/-- Settles O55: the assignments and the ranges are two properties that every change of the ledger keeps. -/
theorem assignmentsStayExact : Obligations.AssignmentsStayExact := by
  unfold Obligations.AssignmentsStayExact
  intro s t hstep
  constructor
  · intro h
    exact State.assignmentsSound_iff.2 (State.kept_assigned.step (State.assignmentsSound_iff.1 h) hstep)
  · intro h
    exact State.rangesSound_iff.2 (State.kept_ranged.step (State.rangesSound_iff.1 h) hstep)

end Sys2Proof.Machine
end

section
/-! Fields of ENROL_GUEST and AMEND_GUEST: markers, and the payloads by their fields (R41, R43, R175). -/

namespace Sys2Proof.Machine

/-! ### Markers -/

/-- A field by its marker and its value (R175). -/
def Setting.ofMarker {α : Type} (m : Nat) (v : α) : Setting α :=
  match m with
  | 0 => .absent
  | 1 => .given v
  | 2 => .unchanged
  | _ => .unknown

theorem settingAt_ofMarker {α : Type} (p : List Byte) (k : Nat) (v : α) : settingAt p k v = .ofMarker (u8 p k) v := rfl

section Markers

variable {α : Type} (m : Nat) (v : α)

theorem optional_ofMarker : (Setting.ofMarker m v).optional
    = if m = 0 then some none else if m = 1 then some (some v) else none := by
  unfold Setting.ofMarker
  split <;> simp_all [Setting.optional]

theorem changeable_ofMarker : (Setting.ofMarker m v).changeable
    = if m = 2 then some none else if m = 1 then some (some v) else none := by
  unfold Setting.ofMarker
  split <;> simp_all [Setting.changeable]

theorem both_ofMarker : (Setting.ofMarker m v).both
    = if m = 2 then some none else if m = 1 then some (some (some v))
      else if m = 0 then some (some none) else none := by
  unfold Setting.ofMarker
  split <;> simp_all [Setting.both]

/-- A field that a payload gives or leaves out, by its marker and its value. -/
theorem givenOr_eq (value : α → List Byte) (junk : α) (x : Option α) :
    givenOr m (value junk) value x = e8 (if x.isSome then 1 else m) ++ value (x.getD junk) := by cases x <;> rfl

end Markers

/-! ### Enumerations -/

section Enumerations

variable {α : Type} [DecidableEq α]

/-- The position of a value in its enumeration. -/
def enumPlace (values : List α) (v : α) : Nat := values.idxOf v

/-- A given enumeration by its position. -/
theorem givenOr_eEnum (m : Nat) (values : List α) (junk : List Byte) (x : Option α) :
    givenOr m junk (eEnum values) x = givenOr m junk e8 (x.map (enumPlace values)) := by cases x <;> rfl

theorem getElem?_enumPlace {values : List α} {v : α} (h : v ∈ values) (hl : values.length ≤ 256) :
    values[enumPlace values v % 256]? = some v := by
  have hlt : enumPlace values v < values.length := List.idxOf_lt_length_of_mem h
  rw [Nat.mod_eq_of_lt (by omega), List.getElem?_eq_getElem hlt]
  exact congrArg some (List.getElem_idxOf hlt)

theorem getElem?_ageBands (v : AgeBand) : ageBands[enumPlace ageBands v % 256]? = some v :=
  getElem?_enumPlace (by cases v <;> decide) (by decide)

theorem getElem?_mayChargeSettings (v : Option Bool) :
    mayChargeSettings[enumPlace mayChargeSettings v % 256]? = some v :=
  getElem?_enumPlace (by revert v; decide) (by decide)

theorem getElem?_yesOrNo (v : Bool) : yesOrNo[enumPlace yesOrNo v % 256]? = some v :=
  getElem?_enumPlace (by cases v <;> decide) (by decide)

theorem getElem?_setOrClear (v : Bool) : setOrClear[enumPlace setOrClear v % 256]? = some v :=
  getElem?_enumPlace (by cases v <;> decide) (by decide)

end Enumerations

theorem some_of_getElem? {α : Type} {values : List α} {k : Nat} (h : k < values.length) : ∃ v, values[k]? = some v :=
  ⟨_, List.getElem?_eq_getElem h⟩

theorem asFin_eq_some {n k : Nat} {x : Fin n} (h : asFin n k = some x) : k < n := by
  unfold asFin at h
  split at h
  · assumption
  · cases h

theorem asFin_of_lt {n k : Nat} (h : k < n) : asFin n k = some ⟨k, h⟩ := dif_pos h

/-! ### ENROL_GUEST -/

/-- The payload of an ENROL_GUEST by its fields, the enumerations and the markers as numbers. -/
abbrev enrolPayload (reference cabinMark : Nat) (code : CabinCode) (folioMark folio band may limitMark limit station
    watch : Nat) : List Byte :=
  e32 reference ++ e8 cabinMark ++ eCode code ++ e8 folioMark ++ e16 folio ++ e8 band ++ e8 may ++ e8 limitMark
    ++ e32 limit ++ e16 station ++ e8 watch

theorem readEnrolGuest_encoded (reference cabinMark : Nat) (code : CabinCode) (folioMark folio band may limitMark limit
    station watch : Nat) :
    readEnrolGuest (enrolPayload reference cabinMark code folioMark folio band may limitMark limit station watch)
      = ⟨reference % 4294967296, .ofMarker (cabinMark % 256) code, .ofMarker (folioMark % 256) (folio % 65536),
        ageBands[band % 256]?, mayChargeSettings[may % 256]?, .ofMarker (limitMark % 256) (limit % 4294967296),
        station % 65536, setOrClear[watch % 256]?⟩ := by
  simp [readEnrolGuest, settingAt_ofMarker, List.append_assoc]

/-! ### AMEND_GUEST -/

/-- The payload of an AMEND_GUEST by its fields, the enumerations and the markers as numbers. -/
abbrev amendPayload (k m1 reference m2 : Nat) (code : CabinCode) (m3 folio m4 band m5 may m6 limit m7 station m8
    watch : Nat) : List Byte :=
  e16 k ++ e8 m1 ++ e32 reference ++ e8 m2 ++ eCode code ++ e8 m3 ++ e16 folio ++ e8 m4 ++ e8 band ++ e8 m5 ++ e8 may
    ++ e8 m6 ++ e32 limit ++ e8 m7 ++ e16 station ++ e8 m8 ++ e8 watch

theorem length_amendPayload (k m1 reference m2 : Nat) (code : CabinCode) (m3 folio m4 band m5 may m6 limit m7 station m8
    watch : Nat) :
    (amendPayload k m1 reference m2 code m3 folio m4 band m5 may m6 limit m7 station m8 watch).length = 28 := by simp

/-- An enumeration by its marker and its position. -/
def Setting.ofEnum {α : Type} (values : List α) (m v : Nat) : Setting α :=
  match Setting.ofMarker m values[v]? with
  | .absent => .absent
  | .given (some v) => .given v
  | .given none => .unknown
  | .unchanged => .unchanged
  | .unknown => .unknown

theorem settingEnumAt_ofEnum {α : Type} (values : List α) (p : List Byte) (k : Nat) :
    settingEnumAt values p k = .ofEnum values (u8 p k) (u8 p (k + 1)) := rfl

theorem changeable_ofEnum {α : Type} (values : List α) (m v : Nat) : (Setting.ofEnum values m v).changeable
    = if m = 2 then some none else if m = 1 then values[v]?.map some else none := by
  match m with
  | 0 => rfl
  | 1 =>
    rw [Setting.ofEnum, Setting.ofMarker]
    cases values[v]? <;> rfl
  | 2 => rfl
  | m + 3 => simp [Setting.ofEnum, Setting.ofMarker, Setting.changeable]

theorem readAmendGuest_encoded (k m1 reference m2 : Nat) (code : CabinCode) (m3 folio m4 band m5 may m6 limit m7 station
    m8 watch : Nat) :
    readAmendGuest (amendPayload k m1 reference m2 code m3 folio m4 band m5 may m6 limit m7 station m8 watch)
      = ⟨k % 65536, .ofMarker (m1 % 256) (reference % 4294967296), .ofMarker (m2 % 256) code,
        .ofMarker (m3 % 256) (folio % 65536), .ofEnum ageBands (m4 % 256) (band % 256),
        .ofEnum yesOrNo (m5 % 256) (may % 256), .ofMarker (m6 % 256) (limit % 4294967296),
        .ofMarker (m7 % 256) (station % 65536), .ofEnum setOrClear (m8 % 256) (watch % 256)⟩ := by
  simp [readAmendGuest, settingAt_ofMarker, settingEnumAt_ofEnum, List.append_assoc]

end Sys2Proof.Machine
end

section
/-! ENROL_GUEST (R40 to R42). -/

namespace Sys2Proof.Machine

/-! ### The values of the fields, and the tests -/

/-- The values of the fields of an ENROL_GUEST that are all known. -/
structure EnrolValues where
  band      : AgeBand
  mayCharge : Option Bool
  watch     : Bool
  code      : Option CabinCode
  folio     : Option Nat
  limit     : Option Nat
  station   : Fin 16

def EnrolGuestFields.values (a : EnrolGuestFields) : Option EnrolValues := do
  let band ← a.band
  let may ← a.mayCharge
  let watch ← a.watch
  let code ← a.cabin.optional
  let folio ← a.folio.optional
  let limit ← a.dayLimit.optional
  let station ← asFin 16 a.station
  return ⟨band, may, watch, code, folio, limit, station⟩

/-- The range test on known values (R41). -/
abbrev EnrolValues.InRange (v : EnrolValues) (s : State) (reference : Nat) : Prop :=
  reference ≠ 0 ∧ ∀ f ∈ v.folio, f < s.store.caps.folios

/-- The record of R42. -/
def EnrolValues.guest (v : EnrolValues) (s : State) (reference : Nat) (cabin : Option Nat) : Guest :=
  { reference := reference, cabin := cabin, folio := v.folio, band := v.band
    mayCharge := defaultMayCharge v.mayCharge v.band, dayLimit := v.limit.map clampLimit, station := v.station
    watch := v.watch, cards := [], presence := .expected, epoch := 0, lastPass := none
    spendDay := s.clock.day, spent := 0, held := 0 }

/-- ENROL_GUEST on known values. -/
def State.enrolWith (s : State) (reference : Nat) (v : EnrolValues) : Verdict (State × List Byte) := do
  check (v.InRange s reference) .range
  let cabin ← need (s.store.decodeOptional v.code) .badCabin
  check (s.findReference reference = none) .duplicate
  let k := Table.lowestFree s.roster.guests 0
  check (k < s.store.caps.guests) .capacity
  check (∀ c ∈ cabin, s.cabinHasRoom c) .limit
  check (∀ f ∈ v.folio, s.folioOpen f) .folioState
  return (s.enrol k (v.guest s reference cabin), e16 k)

/-- A need of two findings is the need of one and then of the other. -/
theorem need_bind {α β : Type} (x : Option α) (f : α → Option β) (r : Result) :
    need (x >>= f) r = need x r >>= fun a => need (f a) r := by cases x <;> rfl

theorem enrolGuest_values (p : List Byte) (s : State) : enrolGuest p s
    = need (readEnrolGuest p).values .range >>= s.enrolWith (readEnrolGuest p).reference := by
  simp only [enrolGuest, EnrolGuestFields.values, need_bind, bind_assoc]
  rfl

/-! ### Each test, the ones before it passed -/

section Tests

variable {s : State} {p : List Byte} {a : EnrolGuestFields} {v : EnrolValues} {reference : Nat} {cabin : Option Nat}

theorem enrolGuest_range (h : ∀ v, (readEnrolGuest p).values = some v → ¬ v.InRange s (readEnrolGuest p).reference) :
    enrolGuest p s = .error (.range, []) := by
  rw [enrolGuest_values]
  cases hv : (readEnrolGuest p).values with
  | none => rfl
  | some v => rw [need_some, ok_bind, State.enrolWith, check_not (h v hv), error_bind]

theorem enrolGuest_of_values (h : (readEnrolGuest p).values = some v) :
    enrolGuest p s = s.enrolWith (readEnrolGuest p).reference v := by rw [enrolGuest_values, h, need_some, ok_bind]

variable (hrange : v.InRange s reference)

include hrange

theorem enrolWith_badCabin (h : s.store.decodeOptional v.code = none) :
    s.enrolWith reference v = .error (.badCabin, []) := by
  rw [State.enrolWith, check_of hrange, ok_bind, h, need_none, error_bind]

variable (hcabin : s.store.decodeOptional v.code = some cabin)

include hcabin

theorem enrolWith_duplicate (h : s.findReference reference ≠ none) :
    s.enrolWith reference v = .error (.duplicate, []) := by
  simp only [State.enrolWith, check_of hrange, hcabin, need_some, ok_bind, check_not h, error_bind]

variable (hfree : s.findReference reference = none)

include hfree

theorem enrolWith_capacity (h : ¬ Table.lowestFree s.roster.guests 0 < s.store.caps.guests) :
    s.enrolWith reference v = .error (.capacity, []) := by
  simp only [State.enrolWith, check_of hrange, hcabin, need_some, ok_bind, check_of hfree, check_not h, error_bind]

variable (hlow : Table.lowestFree s.roster.guests 0 < s.store.caps.guests)

include hlow

theorem enrolWith_limit (h : ¬ ∀ c ∈ cabin, s.cabinHasRoom c) : s.enrolWith reference v = .error (.limit, []) := by
  simp only [State.enrolWith, check_of hrange, hcabin, need_some, ok_bind, check_of hfree, check_of hlow, check_not h,
    error_bind]

variable (hroom : ∀ c ∈ cabin, s.cabinHasRoom c)

include hroom

theorem enrolWith_folioState (h : ¬ ∀ f ∈ v.folio, s.folioOpen f) :
    s.enrolWith reference v = .error (.folioState, []) := by
  simp only [State.enrolWith, check_of hrange, hcabin, need_some, ok_bind, check_of hfree, check_of hlow,
    check_of hroom,    check_not h, error_bind]

theorem enrolWith_ok (h : ∀ f ∈ v.folio, s.folioOpen f) : s.enrolWith reference v
    = .ok (s.enrol (Table.lowestFree s.roster.guests 0) (v.guest s reference cabin),
        e16 (Table.lowestFree s.roster.guests 0)) := by
  simp only [State.enrolWith, check_of hrange, hcabin, need_some, ok_bind, check_of hfree, check_of hlow,
    check_of hroom,    check_of h]
  rfl

end Tests

/-! ### What the tests turn on -/

theorem findReference_eq_none_iff {s : State} {reference : Nat} :
    s.findReference reference = none ↔ ∀ e ∈ s.roster.guests, e.2.reference ≠ reference := by
  simp [State.findReference, List.find?_eq_none]

theorem folioOpen_iff {s : State} {a : Nat} : s.folioOpen a ↔ ∃ x, s.folioAt a = some x ∧ x.state = .opened :=
  Option.map_eq_some_iff

/-- The lowest free index is the one that is free with none free below it. -/
theorem lowestFree_eq {t : Table Guest} (hw : Table.wf t) {k : Nat} (hk : Table.find t k = none)
    (hbelow : ∀ j, j < k → Table.find t j ≠ none) : Table.lowestFree t 0 = k := by
  obtain ⟨hfree, hlisted⟩ := Table.lowestFree_spec hw 0 fun _ _ => Nat.zero_le _
  rcases Nat.lt_trichotomy (Table.lowestFree t 0) k with h | h | h
  · exact absurd hfree (hbelow _ h)
  · exact h
  · exact absurd hk (hlisted k (Nat.zero_le k) h)

theorem lowestFree_lt_iff {t : Table Guest} (hw : Table.wf t) (n : Nat) :
    Table.lowestFree t 0 < n ↔ ∃ k, k < n ∧ Table.find t k = none := by
  obtain ⟨hfree, hlisted⟩ := Table.lowestFree_spec hw 0 fun _ _ => Nat.zero_le _
  refine ⟨fun h => ⟨_, h, hfree⟩, fun ⟨k, hk, hnone⟩ => ?_⟩
  by_contra hge
  exact hlisted k (Nat.zero_le k) (by omega) hnone

/-- The cabin of a code that a marker gives. -/
def Store.markedCabin (st : Store) (m : Nat) (code : CabinCode) : Option Nat :=
  if m = 1 then (st.decode code).map Prod.snd else none

section Decoded

variable {st : Store} {m : Nat} {code : CabinCode}

theorem decodeOptional_marked (h : m = 1 → st.decode code ≠ none) :
    st.decodeOptional (if m = 1 then some code else none) = some (st.markedCabin m code) := by
  unfold Store.markedCabin
  split
  · rename_i h1
    obtain ⟨x, hx⟩ := Option.ne_none_iff_exists'.1 (h h1)
    rw [Store.decodeOptional, Store.cabinIndex, hx]
    rfl
  · rfl

theorem decodeOptional_marked_none (h : ¬ (m = 1 → st.decode code ≠ none)) :
    st.decodeOptional (if m = 1 then some code else none) = none := by
  obtain ⟨h1, hnone⟩ := Classical.not_imp.1 h
  rw [if_pos h1]
  exact decodeOptional_eq_none ⟨code, rfl, not_not.1 hnone⟩

theorem mem_markedCabin {c : Nat} : c ∈ st.markedCabin m code ↔ m = 1 ∧ ∃ deck, st.decode code = some (deck, c) := by
  unfold Store.markedCabin
  split <;> simp_all

end Decoded

/-! ### The values of a frame -/

section Frame

variable {reference cabinMark folioMark folio band may limitMark limit station watch : Nat} {code : CabinCode}
  (hr : reference < 4294967296) (hf : folio < 65536) (hl : limit < 4294967296) (hst : station < 65536)
  (hcm : cabinMark < 256) (hfm : folioMark < 256) (hlm : limitMark < 256) (hb : band < 256) (hm : may < 256)
  (hw : watch < 256)

include hr hf hl hst hcm hfm hlm hb hm hw

theorem readEnrolGuest_bounded :
    readEnrolGuest (enrolPayload reference cabinMark code folioMark folio band may limitMark limit station watch)
      = ⟨reference, .ofMarker cabinMark code, .ofMarker folioMark folio, ageBands[band]?, mayChargeSettings[may]?,
        .ofMarker limitMark limit, station, setOrClear[watch]?⟩ := by
  rw [readEnrolGuest_encoded]
  simp only [Nat.mod_eq_of_lt, hr, hf, hl, hst, hcm, hfm, hlm, hb, hm, hw]

end Frame

/-- The markers, the enumerations and the station are known (R41, R175). -/
abbrev EnrolKnown (cabinMark folioMark band may limitMark station watch : Nat) : Prop :=
  cabinMark ≤ 1 ∧ folioMark ≤ 1 ∧ limitMark ≤ 1 ∧ band ≤ 2 ∧ may ≤ 2 ∧ station ≤ 15 ∧ watch ≤ 1

theorem optional_of_le {α : Type} {n : Nat} {v : α} (h : n ≤ 1) :
    (Setting.ofMarker n v).optional = some (if n = 1 then some v else none) := by
  rw [optional_ofMarker]
  rcases Nat.le_one_iff_eq_zero_or_eq_one.1 h with rfl | rfl <;> rfl

theorem marker_of_optional {α : Type} {n : Nat} {v : α} {x : Option α} (h : (Setting.ofMarker n v).optional = some x) :
    n ≤ 1 ∧ x = if n = 1 then some v else none := by
  have hle : n ≤ 1 := by
    rw [optional_ofMarker] at h
    split_ifs at h <;> omega
  exact ⟨hle, Option.some.inj (h.symm.trans (optional_of_le hle))⟩

section Values

variable {reference cabinMark folioMark folio band may limitMark limit station watch : Nat} {code : CabinCode}

/-- Every field that a payload's values stand for is known. -/
theorem known_of_values {v : EnrolValues} (hv : EnrolGuestFields.values ⟨reference, .ofMarker cabinMark code,
      .ofMarker folioMark folio, ageBands[band]?, mayChargeSettings[may]?, .ofMarker limitMark limit, station,
      setOrClear[watch]?⟩ = some v) : EnrolKnown cabinMark folioMark band may limitMark station watch
      ∧ v.folio = if folioMark = 1 then some folio else none := by
  simp only [EnrolGuestFields.values, Option.bind_eq_bind, Option.bind_eq_some_iff] at hv
  obtain ⟨b, hb, m, hm, w, hw, c, hc, f, hf, l, hl, x, hx, hv⟩ := hv
  obtain ⟨hb, -⟩ := List.getElem?_eq_some_iff.1 hb
  obtain ⟨hm, -⟩ := List.getElem?_eq_some_iff.1 hm
  obtain ⟨hw, -⟩ := List.getElem?_eq_some_iff.1 hw
  have hx := asFin_eq_some hx
  obtain rfl := Option.some.inj hv
  obtain ⟨hc, -⟩ := marker_of_optional hc
  obtain ⟨hf, hfolio⟩ := marker_of_optional hf
  obtain ⟨hl, -⟩ := marker_of_optional hl
  exact ⟨⟨hc, hf, hl, Nat.le_of_lt_succ hb, Nat.le_of_lt_succ hm, Nat.le_of_lt_succ hx, Nat.le_of_lt_succ hw⟩, hfolio⟩

theorem values_of_known (h : EnrolKnown cabinMark folioMark band may limitMark station watch) :
    ∃ v, EnrolGuestFields.values ⟨reference, .ofMarker cabinMark code,
      .ofMarker folioMark folio, ageBands[band]?, mayChargeSettings[may]?, .ofMarker limitMark limit, station,
      setOrClear[watch]?⟩ = some v ∧ v.code = (if cabinMark = 1 then some code else none)
        ∧ v.folio = if folioMark = 1 then some folio else none := by
  obtain ⟨hc, hf, hl, hb, hm, hx, hw⟩ := h
  obtain ⟨b, hb⟩ := some_of_getElem? (values := ageBands) (Nat.lt_succ_of_le hb)
  obtain ⟨m, hm⟩ := some_of_getElem? (values := mayChargeSettings) (Nat.lt_succ_of_le hm)
  obtain ⟨w, hw⟩ := some_of_getElem? (values := setOrClear) (Nat.lt_succ_of_le hw)
  refine ⟨⟨b, m, w, if cabinMark = 1 then some code else none, if folioMark = 1 then some folio else none,
    if limitMark = 1 then some limit else none, ⟨station, Nat.lt_succ_of_le hx⟩⟩, ?_, rfl, rfl⟩
  simp only [EnrolGuestFields.values, hb, hm, hw, optional_of_le hc, optional_of_le hf, optional_of_le hl,
    asFin_of_lt (Nat.lt_succ_of_le hx)]
  rfl

end Values

end Sys2Proof.Machine
end

section
/-! ENROL_GUEST (R40 to R42): its effects and its refusals. -/

namespace Sys2Proof.Machine

/-! ### The effects -/

theorem defaultMayCharge_eq (may : Option Bool) (band : AgeBand) : defaultMayCharge may band
    = (match may with | some b => b | none => decide (band ≠ .child)) := by
  cases may with
  | some b => rfl
  | none => cases band <;> rfl

/-- ENROL_GUEST as its owners' parts (R42). -/
theorem State.enrol_eq (s : State) (k : Nat) (g : Guest) : s.enrol k g = State.evaluateWatches { s with
      roster := ⟨Table.put s.roster.guests k g, s.roster.enrolled + 1⟩
      cabin := (s.enterCabin g.cabin k).cabin
      folio := (s.enterFolio g.folio).folio
      tally := { s.tally with expected := s.tally.expected + 1 } } s.tally := by
  have hcabin := recabin_cabin (s := s)
    (t := s.withRoster { guests := Table.put s.roster.guests k g, enrolled := s.roster.enrolled + 1 })
    rfl k none g.cabin
  have hfolio := refolio_folio (s := s)
    (t := s.withRoster { guests := Table.put s.roster.guests k g, enrolled := s.roster.enrolled + 1 }) rfl none g.folio
  simp only [State.enrol, enterCabin_recabin, enterFolio_refolio, refolio_recabin, hcabin, hfolio]
  rfl

theorem State.enterFolio_folio {s : State} {folio : Option Nat} (h : ∀ f ∈ folio, (s.folioAt f).isSome = true) :
    (s.enterFolio folio).folio = (match folio.bind (fun f => (s.folioAt f).map (fun x => (f, x))) with
      | some (f, x) => { s.folio with folios := Table.put s.folio.folios f { x with members := x.members + 1 } }
      | none => s.folio) := by
  cases folio with
  | none => rfl
  | some f =>
    obtain ⟨x, hx⟩ := Option.isSome_iff_exists.1 (h f rfl)
    simp only [enterFolio, joinFolio, hx, Option.bind_some, Option.map_some]
    rfl

/-- A field that is given, or left out with any value, is read as it was given (R175). -/
theorem optional_given {α : Type} (x : Option α) {v : α} (h : ∀ a ∈ x, v = a) :
    (Setting.ofMarker ((if x.isSome then 1 else 0) % 256) v).optional = some x := by
  cases x with
  | none => rfl
  | some a => rw [h a rfl]; rfl

theorem given_mod {x : Option Nat} {n : Nat} (h : ∀ a ∈ x, a < n) (junk : Nat) : ∀ a ∈ x, x.getD junk % n = a := by
  intro a ha
  obtain rfl := Option.mem_def.1 ha
  exact Nat.mod_eq_of_lt (h a rfl)

section Accepted

variable {reference junk : Nat} {code : Option CabinCode} {folio limit : Option Nat} {band : AgeBand}
  {may : Option Bool} {station : Fin 16} {watch : Bool}

theorem enrolPayload_given : e32 reference ++ givenOr 0 (eCode (BitVec.ofNat 20 junk)) eCode code
      ++ givenOr 0 (e16 junk) e16 folio ++ eEnum [AgeBand.adult, .youth, .child] band
      ++ eEnum [some true, some false, none] may ++ givenOr 0 (e32 junk) e32 limit ++ e16 station.val
      ++ eEnum [true, false] watch
    = enrolPayload reference (if code.isSome then 1 else 0) (code.getD (BitVec.ofNat 20 junk))
      (if folio.isSome then 1 else 0) (folio.getD junk) (enumPlace ageBands band) (enumPlace mayChargeSettings may)
      (if limit.isSome then 1 else 0) (limit.getD junk) station.val (enumPlace setOrClear watch) := by
  rw [givenOr_eq, givenOr_eq, givenOr_eq]
  simp only [enrolPayload, List.append_assoc]
  rfl

theorem readEnrolGuest_given (hr : reference < 4294967296) (hf : ∀ f ∈ folio, f < 65536)
    (hl : ∀ l ∈ limit, l < 4294967296) :
    ∃ a, readEnrolGuest (enrolPayload reference (if code.isSome then 1 else 0) (code.getD (BitVec.ofNat 20 junk))
      (if folio.isSome then 1 else 0) (folio.getD junk) (enumPlace ageBands band) (enumPlace mayChargeSettings may)
      (if limit.isSome then 1 else 0) (limit.getD junk) station.val (enumPlace setOrClear watch)) = a
      ∧ a.reference = reference ∧ a.values = some ⟨band, may, watch, code, folio, limit, station⟩ := by
  refine ⟨_, readEnrolGuest_encoded _ _ _ _ _ _ _ _ _ _ _, Nat.mod_eq_of_lt hr, ?_⟩
  have hcode := optional_given code (v := code.getD (BitVec.ofNat 20 junk)) fun a ha => by
    rw [Option.mem_def.1 ha]
    rfl
  have hfolio := optional_given folio (given_mod hf junk)
  have hlimit := optional_given limit (given_mod hl junk)
  have hstation : asFin 16 (station.val % 65536) = some station := by
    rw [Nat.mod_eq_of_lt (by omega), asFin_of_lt station.isLt]
  simp only [EnrolGuestFields.values, getElem?_ageBands, getElem?_mayChargeSettings, getElem?_setOrClear, hcode,
    hfolio, hlimit, hstation]
  rfl

end Accepted

/-- Settles O22: the values of the fields, then the tests in their order. -/
theorem enrolGuestEffects : Obligations.EnrolGuestEffects := by
  unfold Obligations.EnrolGuestEffects
  constructor
  · intro s tag reference code cabin folio limit band may station watch junk k h0 hrec hw hpos hr hfolio hlimit hcabin
      hsome hunused hfree hbelow hk hroom f g joined t
    obtain ⟨a, hread, hreference, hvalues⟩ := readEnrolGuest_given (junk := junk) (code := code) (band := band)
      (may := may) (station := station) (watch := watch) hr (fun f hf => (hfolio f hf).1) hlimit
    have hlow : Table.lowestFree s.roster.guests 0 = k := lowestFree_eq hw hfree hbelow
    have hdecode : s.store.decodeOptional code = some cabin := by
      cases code with
      | none =>
        obtain rfl : cabin = none := hcabin.symm
        rfl
      | some c =>
        obtain ⟨i, rfl⟩ := Option.isSome_iff_exists.1 hsome.symm
        rw [Store.decodeOptional, show s.store.cabinIndex c = some i from hcabin]
        rfl
    have hopen : ∀ f ∈ folio, s.folioOpen f := fun f hf => folioOpen_iff.2 (hfolio f hf).2.2
    have hok := enrolWith_ok (s := s) (v := ⟨band, may, watch, code, folio, limit, station⟩) (reference := reference)
      ⟨Nat.one_le_iff_ne_zero.1 hpos, fun f hf => (hfolio f hf).2.1⟩ hdecode (findReference_eq_none_iff.2 hunused)
      (hlow ▸ hk) hroom hopen
    have hguest : EnrolValues.guest ⟨band, may, watch, code, folio, limit, station⟩ s reference cabin = g := by
      rw [EnrolValues.guest, defaultMayCharge_eq]
      rfl
    have hstate : s.enrol k g = t.evaluateWatches s.tally := by
      rw [State.enrol_eq, State.enterFolio_folio fun f hf => ?_]
      · cases cabin <;> rfl
      · obtain ⟨x, hx, -⟩ := (hfolio f hf).2.2
        rw [hx]
        rfl
    rw [hlow, hguest, hstate] at hok
    have hbody : enrolGuest f.payload s = .ok (t.evaluateWatches s.tally, e16 k) := by
      rw [frameOf_payload, enrolPayload_given, enrolGuest_of_values (hread ▸ hvalues), hread, hreference]
      exact hok
    exact next_done (c := cmdEnrolGuest) h0 (by decide) (by rw [enrolPayload_given]; rfl) (record_admitted hrec) hbody
  · intro s tag reference folio limit station cabinMark folioMark limitMark band may watch code h0 hrec hw hr hf hl hst
      hcm hfm hlm hb hm hwt f refused valid decodes held full crowded notOpen
    have hrefused : ∀ r, enrolGuest (enrolPayload reference cabinMark code folioMark folio band may limitMark limit
        station watch) s = .error (r, []) → refused r := fun r hr =>
      next_refused (c := cmdEnrolGuest) h0 (by decide) rfl (record_admitted hrec) hr
    have hread := readEnrolGuest_bounded (code := code) hr hf hl hst hcm hfm hlm hb hm hwt
    refine ⟨fun hinvalid => hrefused _ (enrolGuest_range fun v hv hrange => hinvalid ?_), fun hvalid => ?_⟩
    · rw [hread] at hv hrange
      obtain ⟨⟨hc, hf, hl, hb, hm, hx, hw⟩, hfolio⟩ := known_of_values hv
      obtain ⟨hne, hin⟩ := hrange
      refine ⟨hne, hc, hf, hl, fun h1 => hin folio ?_, hb, hm, hx, hw⟩
      rw [hfolio, if_pos h1]
      rfl
    · obtain ⟨hne, hc, hf, hl, hin, hb, hm, hx, hw'⟩ := hvalid
      obtain ⟨v, hv, hcode, hfolio⟩ := values_of_known (reference := reference) (folio := folio) (limit := limit)
        (code := code) ⟨hc, hf, hl, hb, hm, hx, hw'⟩
      have hmem : ∀ f, f ∈ v.folio ↔ folioMark = 1 ∧ f = folio := fun f => by
        rw [hfolio]
        split <;> simp_all [eq_comm]
      have hrange : v.InRange s reference := ⟨hne, fun f hf => by
        obtain ⟨h1, rfl⟩ := (hmem f).1 hf
        exact hin h1⟩
      have hwith : ∀ r, s.enrolWith reference v = .error (r, []) → refused r := fun r hr => hrefused r (by
        rw [enrolGuest_of_values (v := v) (by rw [hread]; exact hv), hread]
        exact hr)
      refine ⟨fun hbad => hwith _ (enrolWith_badCabin hrange (hcode ▸ decodeOptional_marked_none hbad)), fun hgood => ?_⟩
      have hdecoded : s.store.decodeOptional v.code = some (s.store.markedCabin cabinMark code) :=
        hcode ▸ decodeOptional_marked hgood
      refine ⟨fun hheld => hwith _ (enrolWith_duplicate hrange hdecoded fun hnone => ?_), fun hnew => ?_⟩
      · obtain ⟨e, he, href⟩ := hheld
        exact findReference_eq_none_iff.1 hnone e he href
      have hfree : s.findReference reference = none := findReference_eq_none_iff.2 fun e he href => hnew ⟨e, he, href⟩
      refine ⟨fun hfull => hwith _ (enrolWith_capacity hrange hdecoded hfree fun hlt => ?_), fun hplaces => ?_⟩
      · obtain ⟨k, hk, hnone⟩ := (lowestFree_lt_iff hw _).1 hlt
        exact hfull k hk hnone
      have hlow : Table.lowestFree s.roster.guests 0 < s.store.caps.guests := (lowestFree_lt_iff hw _).2 (by
        by_contra hno
        exact hplaces fun k hk hnone => hno ⟨k, hk, hnone⟩)
      refine ⟨fun hcrowded => hwith _ (enrolWith_limit hrange hdecoded hfree hlow fun hroom => ?_),
        fun hspace hclosed => hwith _ (enrolWith_folioState hrange hdecoded hfree hlow (fun c hc => ?_)
          fun hopen => ?_)⟩
      · obtain ⟨h1, deck, i, hi, hsix⟩ := hcrowded
        have hlt : (s.cabinAt i).occupants.length < 6 := hroom i (mem_markedCabin.2 ⟨h1, deck, hi⟩)
        omega
      · obtain ⟨h1, deck, hi⟩ := mem_markedCabin.1 hc
        by_contra hfull
        exact hspace ⟨h1, deck, c, hi, Nat.le_of_not_lt hfull⟩
      · obtain ⟨h1, hno⟩ := hclosed
        obtain ⟨x, hx, hopened⟩ := folioOpen_iff.1 (hopen folio ((hmem folio).2 ⟨h1, rfl⟩))
        exact hno x hx hopened

end Sys2Proof.Machine
end

section
/-! AMEND_GUEST (R44 to R47): what it leaves of the state. -/

namespace Sys2Proof.Machine

namespace State

variable {s : State} {k : Nat} {g h : Guest}

/-! ### Evaluations of unchanged tallies -/

theorem evaluateWatch_self (s : State) (n : Fin 2) : s.evaluateWatch s.tally n = s :=
  if_neg fun ⟨_, hne, _⟩ => hne rfl

theorem evaluateWatches_self (s : State) : s.evaluateWatches s.tally = s := by
  rw [evaluateWatches, evaluateWatch_self, evaluateWatch_self]

/-! ### The cabins -/

/-- The cabin table after a guest has left a cabin (R57). -/
def cabinsWithout (s : State) (k : Nat) (old : Option Nat) : Table Cabin :=
  match old with
  | some b => Table.putD s.cabin.cabins b { s.cabinAt b with
      occupants := (s.cabinAt b).occupants.erase k
      privacy := (s.cabinAt b).privacy && !((s.cabinAt b).occupants.erase k).isEmpty } Cabin.empty
  | none => s.cabin.cabins

theorem quitCabin_without (s : State) (k : Nat) (old : Option Nat) :
    (s.quitCabin old k).cabin = { s.cabin with cabins := s.cabinsWithout k old } := by cases old <;> rfl

theorem recabin_same (s : State) (k : Nat) (old : Option Nat) : s.recabin k old old = s := if_pos rfl

theorem recabin_absent (s : State) (k : Nat) (old : Option Nat) :
    (s.recabin k old none).cabin = { s.cabin with cabins := s.cabinsWithout k old } := by
  rw [← quitCabin_recabin, quitCabin_without]

theorem recabin_present {old : Option Nat} {c : Nat} (hne : old ≠ some c) : (s.recabin k old (some c)).cabin
    = { s.cabin with
        cabins := Table.putD (s.cabinsWithout k old) c
          { s.cabinAt c with occupants := (s.cabinAt c).occupants ++ [k] } Cabin.empty } := by
  have hat : (s.quitCabin old k).cabinAt c = s.cabinAt c := cabinAt_quitCabin_ne hne
  have hquit := s.quitCabin_without k old
  rw [recabin, if_neg hne.symm]
  simp only [enterCabin, appendOccupant, putCabin, withCabin, hat, hquit]

/-! ### The folios -/

/-- The folio table `x` is that of the state after a guest has left the folio `old` (R76, R80). -/
structure FoliosWithout (s : State) (old : Option Nat) (x : Table Folio) : Prop where
  absent  : old = none → x = s.folio.folios
  present : ∀ a, old = some a → ∃ y, s.folioAt a = some y ∧ x =
    if y.state = .closed ∧ y.members ≤ 1 then Table.erase s.folio.folios a
    else Table.put s.folio.folios a { y with members := y.members - 1 }

theorem FoliosWithout.quitFolio {old : Option Nat} {x : Table Folio} (h : s.FoliosWithout old x) :
    (s.quitFolio old).folio = { s.folio with folios := x } := by
  cases old with
  | none =>
    rw [h.absent rfl]
    rfl
  | some a =>
    obtain ⟨y, hy, rfl⟩ := h.present a rfl
    have hlast : (y.state = .closed ∧ y.members - 1 = 0) ↔ (y.state = .closed ∧ y.members ≤ 1) :=
      and_congr_right fun _ => by omega
    simp only [State.quitFolio, leaveFolio, hy, hlast]
    split <;> rfl

theorem refolio_same (s : State) (old : Option Nat) : s.refolio old old = s := if_pos rfl

theorem refolio_absent {old : Option Nat} {x : Table Folio} (h : s.FoliosWithout old x) :
    (s.refolio old none).folio = { s.folio with folios := x } := by
  rw [← quitFolio_refolio, h.quitFolio]

theorem refolio_present {old : Option Nat} {x : Table Folio} {b : Nat} {y : Folio} (h : s.FoliosWithout old x)
    (hne : old ≠ some b) (hy : s.folioAt b = some y) : (s.refolio old (some b)).folio
      = { s.folio with folios := Table.put x b { y with members := y.members + 1 } } := by
  have hquit := h.quitFolio
  have hat : (s.quitFolio old).folioAt b = some y := by
    cases old with
    | none => exact hy
    | some a => exact (folioAt_leaveFolio_ne fun hb => hne (congrArg some hb.symm)).trans hy
  rw [refolio, if_neg hne.symm]
  simp only [enterFolio, joinFolio, hat, putFolio, withFolio, hquit]

/-! ### The tallies -/

/-- The record and the assignments after AMEND_GUEST, the tallies as they were. -/
def rewritten (s : State) (k : Nat) (g h : Guest) : State :=
  { s with
    roster := { s.roster with guests := Table.put s.roster.guests k h }
    cabin := (s.recabin k g.cabin h.cabin).cabin
    folio := (s.refolio g.folio h.folio).folio }

/-- Counts of which one goes over from a station to another. -/
abbrev passedOn (v : Vector Nat 16) (x y : Fin 16) : Vector Nat 16 :=
  putCell (putCell v x (cell v x - 1)) y (cell v y + 1)

theorem amend_rewritten (s : State) (k : Nat) (g h : Guest) : s.amend k g h
    = (if h.station = g.station then s.rewritten k g h
        else (s.rewritten k g h).moveStation g h.station).evaluateWatches s.tally := by
  rw [amend_owners, refolio_recabin]
  rfl

/-- No count turns on the change (R47). -/
theorem amend_still (hstill : h.station = g.station ∨ g.presence ≠ .aboard) :
    s.amend k g h = s.rewritten k g h := by
  have hsame : (if h.station = g.station then s.rewritten k g h
      else (s.rewritten k g h).moveStation g h.station) = s.rewritten k g h := by
    split
    · rfl
    · exact if_neg (hstill.resolve_left ‹_›)
  rw [amend_rewritten, hsame]
  exact evaluateWatches_self (s.rewritten k g h)

theorem passedOn_mapAboardAt (t : Tally) {x y : Fin 16} (hne : y ≠ x) :
    (t.mapAboardAt x (· - 1)).mapAboardAt y (· + 1) = { t with aboardAt := passedOn t.aboardAt x y } := by
  simp only [Tally.mapAboardAt, cell_putCell_ne _ hne.symm]

theorem passedOn_mapUnmustered (t : Tally) {x y : Fin 16} (hne : y ≠ x) :
    (t.mapUnmustered x (· - 1)).mapUnmustered y (· + 1) = { t with unmustered := passedOn t.unmustered x y } := by
  simp only [Tally.mapUnmustered, cell_putCell_ne _ hne.symm]

/-- The aboard counts follow an ABOARD guest. -/
theorem amend_moved (hne : h.station ≠ g.station) (ha : g.presence = .aboard)
    (hm : ¬ (s.mode.muster = true ∧ g.epoch ≠ s.tally.epoch)) :
    s.amend k g h = State.evaluateWatches { s.rewritten k g h with
      tally := { s.tally with aboardAt := passedOn s.tally.aboardAt g.station h.station } } s.tally := by
  rw [amend_rewritten, if_neg hne, moveStation, if_pos ha]
  dsimp only
  rw [passedOn_mapAboardAt _ hne]
  exact congrArg (State.evaluateWatches · s.tally) (if_neg hm)

/-- In a muster the unmustered counts follow one who is not yet mustered. -/
theorem amend_missing (hne : h.station ≠ g.station) (ha : g.presence = .aboard) (hm : s.mode.muster = true)
    (he : g.epoch ≠ s.tally.epoch) :
    s.amend k g h = (State.evaluateCompletion { s.rewritten k g h with
      tally := { s.tally with
        aboardAt := passedOn s.tally.aboardAt g.station h.station
        unmustered := passedOn s.tally.unmustered g.station h.station } }).evaluateWatches s.tally := by
  rw [amend_rewritten, if_neg hne, moveStation, if_pos ha]
  dsimp only
  rw [passedOn_mapAboardAt _ hne]
  refine congrArg (State.evaluateWatches · s.tally) ((if_pos ⟨hm, he⟩).trans ?_)
  rw [passedOn_mapUnmustered _ hne]
  rfl

end State

end Sys2Proof.Machine
end

section
/-! AMEND_GUEST (R43): the values of the fields, and the tests. -/

namespace Sys2Proof.Machine

/-! ### The values -/

/-- The values of the fields of an AMEND_GUEST that are all known; `none` is "unchanged". -/
structure AmendValues where
  reference : Option Nat
  code      : Option (Option CabinCode)
  folio     : Option (Option Nat)
  band      : Option AgeBand
  mayCharge : Option Bool
  limit     : Option (Option Nat)
  watch     : Option Bool
  station   : Fin 16

def AmendGuestFields.values (a : AmendGuestFields) (g : Guest) : Option AmendValues := do
  let reference ← a.reference.changeable
  let code ← a.cabin.both
  let folio ← a.folio.both
  let band ← a.band.changeable
  let may ← a.mayCharge.changeable
  let limit ← a.dayLimit.both
  let place ← a.station.changeable
  let watch ← a.watch.changeable
  let station ← asFin 16 (place.getD g.station.val)
  return ⟨reference, code, folio, band, may, limit, watch, station⟩

/-- The range test on known values (R43). -/
abbrev AmendValues.InRange (v : AmendValues) (s : State) : Prop :=
  (∀ r ∈ v.reference, r ≠ 0) ∧ ∀ f ∈ v.folio.join, f < s.store.caps.folios

/-- The record that AMEND_GUEST writes, the given cabin decoded (R44 to R47). -/
def AmendValues.guest (v : AmendValues) (g : Guest) (cabin : Option Nat) : Guest :=
  { g with
    reference := v.reference.getD g.reference
    cabin := if v.code.isSome then cabin else g.cabin
    folio := v.folio.getD g.folio
    band := v.band.getD g.band
    mayCharge := v.mayCharge.getD g.mayCharge
    dayLimit := (v.limit.map (Option.map clampLimit)).getD g.dayLimit
    station := v.station
    watch := v.watch.getD g.watch }

/-- AMEND_GUEST on known values. -/
def State.amendWith (s : State) (k : Nat) (g : Guest) (v : AmendValues) : Verdict (State × List Byte) := do
  check (v.InRange s) .range
  let cabin ← need (s.store.decodeOptional v.code.join) .badCabin
  let h := v.guest g cabin
  check (h.reference ≠ g.reference → s.findReference h.reference = none) .duplicate
  check (h.folio ≠ g.folio → g.held = 0) .holdsPending
  check (h.folio ≠ g.folio → ∀ f ∈ h.folio, s.folioOpen f) .folioState
  check (h.cabin ≠ g.cabin → ∀ c ∈ h.cabin, s.cabinHasRoom c) .limit
  return (s.amend k g h, [])

theorem amendGuest_values (p : List Byte) (s : State) : amendGuest p s
    = need (s.namedGuest (readAmendGuest p).guest) .notFound >>= fun g =>
      need ((readAmendGuest p).values g) .range >>= s.amendWith (readAmendGuest p).guest g := by
  simp only [amendGuest, AmendGuestFields.values, need_bind, bind_assoc]
  rfl

/-! ### Each test, the ones before it passed -/

section Tests

variable {s : State} {p : List Byte} {k : Nat} {g : Guest} {v : AmendValues} {cabin : Option Nat}

theorem amendGuest_notFound (h : s.namedGuest (readAmendGuest p).guest = none) :
    amendGuest p s = .error (.notFound, []) := by rw [amendGuest_values, h, need_none, error_bind]

theorem amendGuest_range (hg : s.namedGuest (readAmendGuest p).guest = some g)
    (h : ∀ v, (readAmendGuest p).values g = some v → ¬ v.InRange s) : amendGuest p s = .error (.range, []) := by
  rw [amendGuest_values, hg, need_some, ok_bind]
  cases hv : (readAmendGuest p).values g with
  | none => rfl
  | some v => rw [need_some, ok_bind, State.amendWith, check_not (h v hv), error_bind]

theorem amendGuest_of_values (hg : s.namedGuest (readAmendGuest p).guest = some g)
    (h : (readAmendGuest p).values g = some v) : amendGuest p s = s.amendWith (readAmendGuest p).guest g v := by
  rw [amendGuest_values, hg, need_some, ok_bind, h, need_some, ok_bind]

variable (hrange : v.InRange s)

include hrange

theorem amendWith_badCabin (h : s.store.decodeOptional v.code.join = none) :
    s.amendWith k g v = .error (.badCabin, []) := by
  rw [State.amendWith, check_of hrange, ok_bind, h, need_none, error_bind]

variable (hcabin : s.store.decodeOptional v.code.join = some cabin)

include hcabin

theorem amendWith_duplicate (h : ¬ ((v.guest g cabin).reference ≠ g.reference →
    s.findReference (v.guest g cabin).reference = none)) : s.amendWith k g v = .error (.duplicate, []) := by
  simp only [State.amendWith, check_of hrange, hcabin, need_some, ok_bind, check_not h, error_bind]

variable (hfree : (v.guest g cabin).reference ≠ g.reference → s.findReference (v.guest g cabin).reference = none)

include hfree

theorem amendWith_holdsPending (h : ¬ ((v.guest g cabin).folio ≠ g.folio → g.held = 0)) :
    s.amendWith k g v = .error (.holdsPending, []) := by
  simp only [State.amendWith, check_of hrange, hcabin, need_some, ok_bind, check_of hfree, check_not h, error_bind]

variable (hheld : (v.guest g cabin).folio ≠ g.folio → g.held = 0)

include hheld

theorem amendWith_folioState (h : ¬ ((v.guest g cabin).folio ≠ g.folio →
    ∀ f ∈ (v.guest g cabin).folio, s.folioOpen f)) :
    s.amendWith k g v = .error (.folioState, []) := by
  simp only [State.amendWith, check_of hrange, hcabin, need_some, ok_bind, check_of hfree, check_of hheld, check_not h,
    error_bind]

variable (hopen : (v.guest g cabin).folio ≠ g.folio → ∀ f ∈ (v.guest g cabin).folio, s.folioOpen f)

include hopen

theorem amendWith_limit (h : ¬ ((v.guest g cabin).cabin ≠ g.cabin → ∀ c ∈ (v.guest g cabin).cabin, s.cabinHasRoom c)) :
    s.amendWith k g v = .error (.limit, []) := by
  simp only [State.amendWith, check_of hrange, hcabin, need_some, ok_bind, check_of hfree, check_of hheld,
    check_of hopen,    check_not h, error_bind]

theorem amendWith_ok (h : (v.guest g cabin).cabin ≠ g.cabin → ∀ c ∈ (v.guest g cabin).cabin, s.cabinHasRoom c) :
    s.amendWith k g v = .ok (s.amend k g (v.guest g cabin), []) := by
  simp only [State.amendWith, check_of hrange, hcabin, need_some, ok_bind, check_of hfree, check_of hheld,
    check_of hopen,    check_of h]
  rfl

end Tests

/-! ### The values of a frame of numbers -/

/-- A changeable field that a marker gives or leaves unchanged. -/
def changedBy {α : Type} (m : Nat) (v : α) : Option α := if m = 1 then some v else none

/-- A changeable field that a marker gives, makes absent or leaves unchanged. -/
def remadeBy {α : Type} (m : Nat) (v : α) : Option (Option α) :=
  if m = 2 then none else if m = 1 then some (some v) else some none

section Markers

variable {α : Type} {m : Nat} {v : α}

theorem changeable_of_known (h : m = 2 ∨ m = 1) : (Setting.ofMarker m v).changeable = some (changedBy m v) := by
  rcases h with rfl | rfl <;> rfl

theorem known_of_changeable {x : Option α} (h : (Setting.ofMarker m v).changeable = some x) :
    (m = 2 ∨ m = 1) ∧ x = changedBy m v := by
  have hm : m = 2 ∨ m = 1 := by
    rw [changeable_ofMarker] at h
    split_ifs at h
    · exact .inl ‹_›
    · exact .inr ‹_›
  exact ⟨hm, Option.some.inj (h.symm.trans (changeable_of_known hm))⟩

theorem both_of_known (h : m ≤ 2) : (Setting.ofMarker m v).both = some (remadeBy m v) := by
  rw [both_ofMarker, remadeBy]
  split
  · rfl
  · split
    · rfl
    · rw [if_pos (by omega)]

theorem known_of_both {x : Option (Option α)} (h : (Setting.ofMarker m v).both = some x) :
    m ≤ 2 ∧ x = remadeBy m v := by
  have hm : m ≤ 2 := by
    rw [both_ofMarker] at h
    split_ifs at h <;> omega
  exact ⟨hm, Option.some.inj (h.symm.trans (both_of_known hm))⟩

variable {values : List α} {n : Nat}

theorem changeable_of_known_enum (h : m = 2 ∨ (m = 1 ∧ n < values.length)) :
    ∃ x, (Setting.ofEnum values m n).changeable = some x := by
  rcases h with rfl | ⟨rfl, hn⟩
  · exact ⟨none, rfl⟩
  · exact ⟨some values[n], by rw [changeable_ofEnum, if_neg (by decide), if_pos rfl, List.getElem?_eq_getElem hn]; rfl⟩

theorem known_of_changeable_enum {x : Option α} (h : (Setting.ofEnum values m n).changeable = some x) :
    m = 2 ∨ (m = 1 ∧ n < values.length) := by
  rw [changeable_ofEnum] at h
  split_ifs at h with h2 h1
  · exact .inl h2
  · obtain ⟨v, hv, -⟩ := Option.map_eq_some_iff.1 h
    exact .inr ⟨h1, (List.getElem?_eq_some_iff.1 hv).1⟩

end Markers

section Frame

variable {k reference folio band may limit station watch m1 m2 m3 m4 m5 m6 m7 m8 : Nat} {code : CabinCode}

/-- The markers, the enumerations and the station are known (R43, R175). -/
abbrev AmendKnown (m1 m2 m3 m4 band m5 may m6 m7 station m8 watch : Nat) : Prop :=
  (m1 = 2 ∨ m1 = 1) ∧ m2 ≤ 2 ∧ m3 ≤ 2 ∧ (m4 = 2 ∨ (m4 = 1 ∧ band < 3)) ∧ (m5 = 2 ∨ (m5 = 1 ∧ may < 2)) ∧ m6 ≤ 2
    ∧ (m7 = 2 ∨ (m7 = 1 ∧ station < 16)) ∧ (m8 = 2 ∨ (m8 = 1 ∧ watch < 2))

theorem readAmendGuest_bounded (hk : k < 65536) (hr : reference < 4294967296) (hf : folio < 65536) (hb : band < 256)
    (hm : may < 256) (hl : limit < 4294967296) (hst : station < 65536) (hw : watch < 256)
    (hmarks : ∀ m ∈ [m1, m2, m3, m4, m5, m6, m7, m8], m < 256) :
    readAmendGuest (amendPayload k m1 reference m2 code m3 folio m4 band m5 may m6 limit m7 station m8 watch)
      = ⟨k, .ofMarker m1 reference, .ofMarker m2 code, .ofMarker m3 folio, .ofEnum ageBands m4 band,
        .ofEnum yesOrNo m5 may, .ofMarker m6 limit, .ofMarker m7 station, .ofEnum setOrClear m8 watch⟩ := by
  simp only [List.forall_mem_cons] at hmarks
  obtain ⟨h1, h2, h3, h4, h5, h6, h7, h8, -⟩ := hmarks
  rw [readAmendGuest_encoded]
  simp only [Nat.mod_eq_of_lt, hk, hr, hf, hb, hm, hl, hst, hw, h1, h2, h3, h4, h5, h6, h7, h8]

theorem amend_known_of_values {v : AmendValues} {g : Guest} (hv : AmendGuestFields.values ⟨k, .ofMarker m1 reference,
      .ofMarker m2 code, .ofMarker m3 folio, .ofEnum ageBands m4 band, .ofEnum yesOrNo m5 may, .ofMarker m6 limit,
      .ofMarker m7 station, .ofEnum setOrClear m8 watch⟩ g = some v) :
    AmendKnown m1 m2 m3 m4 band m5 may m6 m7 station m8 watch ∧ v.reference = changedBy m1 reference
      ∧ v.folio = remadeBy m3 folio := by
  simp only [AmendGuestFields.values, Option.bind_eq_bind, Option.bind_eq_some_iff] at hv
  obtain ⟨r, hr, c, hc, f, hf, b, hb, m, hm, l, hl, p, hp, w, hw, x, hx, hv⟩ := hv
  obtain ⟨h1, hreference⟩ := known_of_changeable hr
  obtain ⟨h2, -⟩ := known_of_both hc
  obtain ⟨h3, hfolio⟩ := known_of_both hf
  obtain ⟨h6, -⟩ := known_of_both hl
  obtain ⟨h7, rfl⟩ := known_of_changeable hp
  have h16 : m7 = 2 ∨ (m7 = 1 ∧ station < 16) := h7.imp_right fun h => by
    subst h
    exact ⟨rfl, asFin_eq_some hx⟩
  obtain rfl := Option.some.inj hv
  exact ⟨⟨h1, h2, h3, known_of_changeable_enum hb, known_of_changeable_enum hm, h6, h16, known_of_changeable_enum hw⟩,
    hreference, hfolio⟩

theorem amend_values_of_known (h : AmendKnown m1 m2 m3 m4 band m5 may m6 m7 station m8 watch) (g : Guest) :
    ∃ v, AmendGuestFields.values ⟨k, .ofMarker m1 reference,
      .ofMarker m2 code, .ofMarker m3 folio, .ofEnum ageBands m4 band, .ofEnum yesOrNo m5 may, .ofMarker m6 limit,
      .ofMarker m7 station, .ofEnum setOrClear m8 watch⟩ g = some v ∧ v.reference = changedBy m1 reference
        ∧ v.code = remadeBy m2 code ∧ v.folio = remadeBy m3 folio := by
  obtain ⟨h1, h2, h3, h4, h5, h6, h7, h8⟩ := h
  obtain ⟨b, hb⟩ := changeable_of_known_enum (values := ageBands) h4
  obtain ⟨m, hm⟩ := changeable_of_known_enum (values := yesOrNo) h5
  obtain ⟨w, hw⟩ := changeable_of_known_enum (values := setOrClear) h8
  have hlt : (changedBy m7 station).getD g.station.val < 16 := by
    rcases h7 with rfl | ⟨rfl, hst⟩
    · exact g.station.isLt
    · exact hst
  refine ⟨⟨changedBy m1 reference, remadeBy m2 code, remadeBy m3 folio, b, m, remadeBy m6 limit, w, ⟨_, hlt⟩⟩, ?_,
    rfl, rfl, rfl⟩
  simp only [AmendGuestFields.values, changeable_of_known h1, both_of_known h2, both_of_known h3, both_of_known h6,
    hb, hm, hw, changeable_of_known (h7.imp_right fun h => h.1)]
  exact congrArg (Option.bind · _) (asFin_of_lt hlt)

end Frame

end Sys2Proof.Machine
end

section
/-! AMEND_GUEST (R43 to R47): a frame of given fields. -/

namespace Sys2Proof.Machine

/-! ### Fields that are given, absent or unchanged -/

/-- The marker of a field in which absence is a value of its own (R175). -/
def bothMarker {α : Type} (x : Option (Option α)) : Nat :=
  match x with
  | some (some _) => 1
  | some none => 0
  | none => 2

theorem givenBoth_eq {α : Type} (value : α → List Byte) (junk : α) (x : Option (Option α)) :
    givenBoth (value junk) value x = e8 (bothMarker x) ++ value (x.join.getD junk) := by
  rcases x with _ | _ | a <;> rfl

theorem changeable_given {α : Type} (x : Option α) {v : α} (h : ∀ a ∈ x, v = a) :
    (Setting.ofMarker ((if x.isSome then 1 else 2) % 256) v).changeable = some x := by
  cases x with
  | none => rfl
  | some a => rw [h a rfl]; rfl

theorem both_given {α : Type} (x : Option (Option α)) {v : α} (h : ∀ a ∈ x.join, v = a) :
    (Setting.ofMarker (bothMarker x % 256) v).both = some x := by
  rcases x with _ | _ | a
  · rfl
  · rfl
  · rw [h a rfl]; rfl

theorem changeable_given_enum {α : Type} [DecidableEq α] {values : List α} (x : Option α) (junk : Nat)
    (h : ∀ v, values[enumPlace values v % 256]? = some v) :
    (Setting.ofEnum values ((if (x.map (enumPlace values)).isSome then 1 else 2) % 256)
      ((x.map (enumPlace values)).getD junk % 256)).changeable = some x := by
  rw [changeable_ofEnum]
  cases x with
  | none => rfl
  | some v => simp [h v]

/-- The payload of an AMEND_GUEST that gives, leaves out or leaves unchanged each of its fields. -/
abbrev amendGiven (k junk : Nat) (reference : Option Nat) (code : Option (Option CabinCode))
    (folio : Option (Option Nat)) (band : Option AgeBand) (may : Option Bool) (limit : Option (Option Nat))
    (station : Option Nat) (watch : Option Bool) : List Byte :=
  e16 k ++ givenOr 2 (e32 junk) e32 reference ++ givenBoth (eCode (BitVec.ofNat 20 junk)) eCode code
    ++ givenBoth (e16 junk) e16 folio ++ givenOr 2 (e8 junk) (eEnum [AgeBand.adult, .youth, .child]) band
    ++ givenOr 2 (e8 junk) (eEnum [true, false]) may ++ givenBoth (e32 junk) e32 limit
    ++ givenOr 2 (e16 junk) e16 station ++ givenOr 2 (e8 junk) (eEnum [true, false]) watch

section Given

variable {k junk : Nat} {reference : Option Nat} {code : Option (Option CabinCode)} {folio : Option (Option Nat)}
  {band : Option AgeBand} {may : Option Bool} {limit : Option (Option Nat)} {station : Option (Fin 16)}
  {watch : Option Bool}

theorem amendGiven_eq (k junk : Nat) (reference : Option Nat) (code : Option (Option CabinCode))
    (folio : Option (Option Nat)) (band : Option AgeBand) (may : Option Bool) (limit : Option (Option Nat))
    (station : Option Nat) (watch : Option Bool) :
    amendGiven k junk reference code folio band may limit station watch
      = amendPayload k (if reference.isSome then 1 else 2) (reference.getD junk) (bothMarker code)
        (code.join.getD (BitVec.ofNat 20 junk)) (bothMarker folio) (folio.join.getD junk)
        (if (band.map (enumPlace ageBands)).isSome then 1 else 2) ((band.map (enumPlace ageBands)).getD junk)
        (if (may.map (enumPlace yesOrNo)).isSome then 1 else 2) ((may.map (enumPlace yesOrNo)).getD junk)
        (bothMarker limit) (limit.join.getD junk) (if station.isSome then 1 else 2) (station.getD junk)
        (if (watch.map (enumPlace setOrClear)).isSome then 1 else 2)
        ((watch.map (enumPlace setOrClear)).getD junk) := by
  rw [amendGiven, givenOr_eEnum, givenOr_eEnum, givenOr_eEnum]
  simp only [givenOr_eq, givenBoth_eq, amendPayload, List.append_assoc]
  rfl

theorem readAmendGuest_given (g : Guest) (hk : k < 65536) (hr : ∀ r ∈ reference, r < 4294967296)
    (hf : ∀ f ∈ folio.join, f < 65536) (hl : ∀ l ∈ limit.join, l < 4294967296) :
    ∃ a, readAmendGuest (amendGiven k junk reference code folio band may limit (station.map Fin.val) watch) = a
      ∧ a.guest = k
      ∧ a.values g = some ⟨reference, code, folio, band, may, limit, watch, station.getD g.station⟩ := by
  rw [amendGiven_eq]
  refine ⟨_, readAmendGuest_encoded _ _ _ _ _ _ _ _ _ _ _ _ _ _ _ _ _, Nat.mod_eq_of_lt hk, ?_⟩
  have hreference := changeable_given reference (given_mod hr junk)
  have hcode := both_given code (v := code.join.getD (BitVec.ofNat 20 junk)) fun a ha => by
    rw [Option.mem_def.1 ha]
    rfl
  have hfolio := both_given folio (given_mod hf junk)
  have hband := changeable_given_enum band junk getElem?_ageBands
  have hmay := changeable_given_enum may junk getElem?_yesOrNo
  have hlimit := both_given limit (given_mod hl junk)
  have hstation := changeable_given (station.map Fin.val) (given_mod (n := 65536) (fun a ha => by
    obtain ⟨x, -, rfl⟩ := Option.map_eq_some_iff.1 ha
    omega) junk)
  have hwatch := changeable_given_enum watch junk getElem?_setOrClear
  have hplace : asFin 16 ((station.map Fin.val).getD g.station.val) = some (station.getD g.station) := by
    cases station with
    | none => exact asFin_of_lt g.station.isLt
    | some x => exact asFin_of_lt x.isLt
  simp only [AmendGuestFields.values, hreference, hcode, hfolio, hband, hmay, hlimit, hstation, hwatch]
  exact congrArg (Option.bind · _) hplace

end Given

end Sys2Proof.Machine
end

section
/-! AMEND_GUEST (R43 to R47): its effects and its refusals. -/

namespace Sys2Proof.Machine

/-! ### A frame that passes the tests -/

/-- The command with the payload `p` answers DONE without data, in the state `t`. -/
abbrev AmendDone (s : State) (tag : Byte) (p : List Byte) (t : State) : Prop :=
  exec (.amendGuest (frameOf tag p)) s = .next (t.answered 0x31 (frameOf tag p) .done [])

/-- The guest `g` may hold the booking reference `r`, which is nobody else's (R43). -/
abbrev State.mayTake (s : State) (g : Guest) (r : Nat) : Prop :=
  1 ≤ r ∧ r < 4294967296 ∧ (r = g.reference ∨ ∀ e ∈ s.roster.guests, e.2.reference ≠ r)

section Accepted

variable {s t : State} {tag : Byte} {k junk : Nat} {g h : Guest} {reference : Option Nat}
  {code : Option (Option CabinCode)} {folio : Option (Option Nat)} {band : Option AgeBand} {may : Option Bool}
  {limit : Option (Option Nat)} {station : Option (Fin 16)} {watch : Option Bool} {decoded : Option Nat}

/-- The command takes the record `g` to the record `h` that its fields say. -/
theorem amendGiven_done (h0 : s.SlotEmpty) (hrec : s.HasRecords) (hk : k < 65536) (hcaps : k < s.store.caps.guests)
    (hg : s.guestAt k = some g)
    (hreference : ∀ r ∈ reference, s.mayTake g r)
    (hlimit : ∀ l ∈ limit.join, l < 4294967296) (hcode : s.store.decodeOptional code.join = some decoded)
    (hfolio : ∀ b ∈ folio.join, b < 65536 ∧ b < s.store.caps.folios)
    (hguest : AmendValues.guest ⟨reference, code, folio, band, may, limit, watch, station.getD g.station⟩ g decoded = h)
    (hheld : h.folio ≠ g.folio → g.held = 0) (hopen : h.folio ≠ g.folio → ∀ f ∈ h.folio, s.folioOpen f)
    (hroom : h.cabin ≠ g.cabin → ∀ c ∈ h.cabin, s.cabinHasRoom c) (ht : s.amend k g h = t) :
    AmendDone s tag (amendGiven k junk reference code folio band may limit (station.map Fin.val) watch) t := by
  obtain ⟨a, hread, hindex, hvalues⟩ := readAmendGuest_given (junk := junk) (code := code) (band := band) (may := may)
    (station := station) (watch := watch) g hk (fun r hr => (hreference r hr).2.1) (fun b hb => (hfolio b hb).1) hlimit
  have hnamed : s.namedGuest a.guest = some g := by rw [hindex, State.namedGuest_eq_some hcaps hg]
  have hfree : h.reference ≠ g.reference → s.findReference h.reference = none := by
    obtain rfl := hguest
    cases reference with
    | none => exact fun hne => absurd rfl hne
    | some r => exact fun hne => findReference_eq_none_iff.2 ((hreference r rfl).2.2.resolve_left hne)
  obtain rfl := hguest
  obtain rfl := ht
  have hok := amendWith_ok (s := s) (k := k) (g := g)
    (v := ⟨reference, code, folio, band, may, limit, watch, station.getD g.station⟩)
    ⟨fun r hr => Nat.one_le_iff_ne_zero.1 (hreference r hr).1, fun b hb => (hfolio b hb).2⟩
    hcode hfree hheld hopen hroom
  refine next_done (c := cmdAmendGuest) h0 (by decide) ?_ (record_admitted hrec) ?_
  · rw [amendGiven_eq]
    exact length_amendPayload _ _ _ _ _ _ _ _ _ _ _ _ _ _ _ _ _
  · rw [amendGuest_of_values (hread ▸ hnamed) (hread ▸ hvalues), hread, hindex]
    exact hok

end Accepted

/-! ### What it leaves of the cabins and the folios -/

namespace State

variable {s : State} {k : Nat} {g h : Guest}

theorem recabin_cabins (s : State) (k : Nat) (old new : Option Nat) : (s.recabin k old new).cabin = { s.cabin with
    cabins := if new = old then s.cabin.cabins else match new with
      | some c => Table.putD (s.cabinsWithout k old) c
          { s.cabinAt c with occupants := (s.cabinAt c).occupants ++ [k] } Cabin.empty
      | none => s.cabinsWithout k old } := by
  split
  · rename_i hsame
    rw [hsame, recabin_same]
  · rename_i hne
    cases new with
    | none => exact recabin_absent s k old
    | some c => exact recabin_present (Ne.symm hne)

theorem refolio_folios {old new : Option Nat} {dropped folios : Table Folio}
    (hdrop : new = old ∨ old = none → dropped = s.folio.folios)
    (hleave : new ≠ old → ∀ a, old = some a → ∃ x, s.folioAt a = some x ∧ dropped =
      if x.state = .closed ∧ x.members ≤ 1 then Table.erase s.folio.folios a
      else Table.put s.folio.folios a { x with members := x.members - 1 })
    (hstay : new = old ∨ new = none → folios = dropped)
    (hjoin : new ≠ old → ∀ b, new = some b → ∃ y, s.folioAt b = some y ∧ y.state = .opened
      ∧ folios = Table.put dropped b { y with members := y.members + 1 }) :
    (s.refolio old new).folio = { s.folio with folios := folios } := by
  by_cases hsame : new = old
  · rw [hsame, refolio_same, hstay (.inl hsame), hdrop (.inl hsame)]
  · have hwithout : s.FoliosWithout old dropped := ⟨fun ha => hdrop (.inr ha), hleave hsame⟩
    cases new with
    | none => rw [refolio_absent hwithout, hstay (.inr rfl)]
    | some b =>
      obtain ⟨y, hy, -, hfolios⟩ := hjoin hsame b rfl
      rw [refolio_present hwithout (Ne.symm hsame) hy, hfolios]

/-- Neither the cabin, nor the folio, nor the station changes. -/
theorem amend_record (hc : h.cabin = g.cabin) (hf : h.folio = g.folio) (hx : h.station = g.station) :
    s.amend k g h = { s with roster := { s.roster with guests := Table.put s.roster.guests k h } } := by
  rw [amend_still (.inl hx), rewritten, hc, hf, recabin_same, refolio_same]

theorem amend_cabin (hf : h.folio = g.folio) (hx : h.station = g.station) : s.amend k g h = { s with
    roster := { s.roster with guests := Table.put s.roster.guests k h }
    cabin := (s.recabin k g.cabin h.cabin).cabin } := by
  rw [amend_still (.inl hx), rewritten, hf, refolio_same]

theorem amend_folio (hc : h.cabin = g.cabin) (hx : h.station = g.station) : s.amend k g h = { s with
    roster := { s.roster with guests := Table.put s.roster.guests k h }
    folio := (s.refolio g.folio h.folio).folio } := by
  rw [amend_still (.inl hx), rewritten, hc, recabin_same]

theorem rewritten_station (hc : h.cabin = g.cabin) (hf : h.folio = g.folio) : s.rewritten k g h
    = { s with roster := { s.roster with guests := Table.put s.roster.guests k h } } := by
  rw [rewritten, hc, hf, recabin_same, refolio_same]

end State

/-! ### The refusals -/

section Refused

variable {s : State} {tag : Byte} {k reference folio band may limit station watch m1 m2 m3 m4 m5 m6 m7 m8 : Nat}
  {code : CabinCode}

theorem amendPayload_refused {r : Result} (h0 : s.SlotEmpty) (hrec : s.HasRecords)
    (h : amendGuest (amendPayload k m1 reference m2 code m3 folio m4 band m5 may m6 limit m7 station m8 watch) s
      = .error (r, [])) :
    exec (.amendGuest (frameOf tag
        (amendPayload k m1 reference m2 code m3 folio m4 band m5 may m6 limit m7 station m8 watch))) s
      = .next (s.answered 0x31 (frameOf tag
        (amendPayload k m1 reference m2 code m3 folio m4 band m5 may m6 limit m7 station m8 watch)) r []) :=
  next_refused (c := cmdAmendGuest) h0 (by decide) (length_amendPayload _ _ _ _ _ _ _ _ _ _ _ _ _ _ _ _ _)
      (record_admitted hrec) h

end Refused

theorem join_remadeBy {α : Type} (m : Nat) (v : α) : (remadeBy m v).join = if m = 1 then some v else none := by
  unfold remadeBy
  by_cases h2 : m = 2
  · subst h2
    rfl
  · rw [if_neg h2]
    split <;> rfl

end Sys2Proof.Machine
end

section
/-! AMEND_GUEST (R43 to R47): each kind of change in a frame. -/

namespace Sys2Proof.Machine

section Clauses

variable {s : State} {tag : Byte} {k junk : Nat} {g : Guest} (h0 : s.SlotEmpty) (hrec : s.HasRecords) (hk : k < 65536)
  (hcaps : k < s.store.caps.guests) (hg : s.guestAt k = some g)

include h0 hrec hk hcaps hg

theorem amend_record_done {reference : Option Nat} {band : Option AgeBand} {may : Option Bool}
    {limit : Option (Option Nat)} {watch : Option Bool}
    (hreference : ∀ r ∈ reference, s.mayTake g r)
    (hlimit : ∀ l ∈ limit.join, l < 4294967296) :
    AmendDone s tag (amendGiven k junk reference none none band may limit none watch)
      { s with roster := { s.roster with guests := Table.put s.roster.guests k { g with
          reference := reference.getD g.reference, band := band.getD g.band, mayCharge := may.getD g.mayCharge
          dayLimit := (limit.map (Option.map (fun l => min l 10000000))).getD g.dayLimit
          watch := watch.getD g.watch } } } :=
  amendGiven_done (station := none) h0 hrec hk hcaps hg hreference hlimit rfl (by simp) rfl
    (absurd rfl) (absurd rfl) (absurd rfl) (State.amend_record rfl rfl rfl)

theorem amend_toCabin_done {code : CabinCode} {c : Nat} (hdecoded : s.store.cabinIndex code = some c)
    (hne : g.cabin ≠ some c) (hroom : s.cabinHasRoom c) :
    AmendDone s tag (amendGiven k junk none (some (some code)) none none none none none none) { s with
      roster := { s.roster with guests := Table.put s.roster.guests k { g with cabin := some c } }
      cabin := { s.cabin with
        cabins := Table.putD (s.cabinsWithout k g.cabin) c
          { s.cabinAt c with occupants := (s.cabinAt c).occupants ++ [k] } Cabin.empty } } := by
  have hcode : s.store.decodeOptional (some code) = some (some c) := congrArg (Option.map some) hdecoded
  have hstate := State.amend_cabin (s := s) (k := k) (g := g) (h := { g with cabin := some c }) rfl rfl
  rw [State.recabin_present hne] at hstate
  exact amendGiven_done (station := none) h0 hrec hk hcaps hg (by simp) (by simp) hcode (by simp) rfl
    (absurd rfl) (absurd rfl) (fun _ i hi => Option.some.inj hi ▸ hroom) hstate

theorem amend_noCabin_done :
    AmendDone s tag (amendGiven k junk none (some none) none none none none none none) { s with
      roster := { s.roster with guests := Table.put s.roster.guests k { g with cabin := none } }
      cabin := { s.cabin with cabins := s.cabinsWithout k g.cabin } } := by
  have hstate := State.amend_cabin (s := s) (k := k) (g := g) (h := { g with cabin := none }) rfl rfl
  rw [State.recabin_absent] at hstate
  exact amendGiven_done (station := none) h0 hrec hk hcaps hg (by simp) (by simp) rfl (by simp) rfl
    (absurd rfl) (absurd rfl) (fun _ i hi => nomatch hi) hstate

theorem amend_toFolio_done {dropped : Table Folio} {b : Nat} {y : Folio} (hheld : g.held = 0)
    (hwithout : s.FoliosWithout g.folio dropped) (hlt : b < 65536) (hcap : b < s.store.caps.folios)
    (hne : g.folio ≠ some b) (hy : s.folioAt b = some y) (hopened : y.state = .opened) :
    AmendDone s tag (amendGiven k junk none none (some (some b)) none none none none none) { s with
      roster := { s.roster with guests := Table.put s.roster.guests k { g with folio := some b } }
      folio := { s.folio with folios := Table.put dropped b { y with members := y.members + 1 } } } := by
  have hstate := State.amend_folio (s := s) (k := k) (g := g) (h := { g with folio := some b }) rfl rfl
  rw [State.refolio_present hwithout hne hy] at hstate
  exact amendGiven_done (station := none) h0 hrec hk hcaps hg (by simp) (by simp) rfl
    (fun i hi => Option.some.inj hi ▸ ⟨hlt, hcap⟩) rfl (fun _ => hheld)
    (fun _ i hi => Option.some.inj hi ▸ folioOpen_iff.2 ⟨y, hy, hopened⟩) (absurd rfl) hstate

theorem amend_noFolio_done {dropped : Table Folio} (hheld : g.held = 0) (hwithout : s.FoliosWithout g.folio dropped) :
    AmendDone s tag (amendGiven k junk none none (some none) none none none none none) { s with
      roster := { s.roster with guests := Table.put s.roster.guests k { g with folio := none } }
      folio := { s.folio with folios := dropped } } := by
  have hstate := State.amend_folio (s := s) (k := k) (g := g) (h := { g with folio := none }) rfl rfl
  rw [State.refolio_absent hwithout] at hstate
  exact amendGiven_done (station := none) h0 hrec hk hcaps hg (by simp) (by simp) rfl (by simp) rfl
    (fun _ => hheld) (fun _ i hi => nomatch hi) (absurd rfl) hstate

theorem amend_station_done {x : Fin 16} {t : State} (ht : s.amend k g { g with station := x } = t) :
    AmendDone s tag (amendGiven k junk none none none none none none (some x.val) none) t :=
  amendGiven_done (station := some x) h0 hrec hk hcaps hg (by simp) (by simp) rfl (by simp) rfl
    (absurd rfl) (absurd rfl) (absurd rfl) ht

end Clauses

end Sys2Proof.Machine
end

section
/-! AMEND_GUEST (R43 to R47): all changes at once, and the statement. -/

namespace Sys2Proof.Machine

/-! ### All changes at once -/

/-- The tallies follow the guest when an ABOARD guest's station changes, and only then. -/
theorem State.amend_all {s : State} {k : Nat} {g h : Guest} {moves : Bool}
    (hmoves : moves = (decide (h.station ≠ g.station) && g.presence == .aboard)) :
    s.amend k g h = (if moves && s.mode.muster && decide (g.epoch ≠ s.tally.epoch)
      then State.evaluateCompletion { s.rewritten k g h with
        tally := { s.tally with
          aboardAt := if moves then passedOn s.tally.aboardAt g.station h.station else s.tally.aboardAt
          unmustered := passedOn s.tally.unmustered g.station h.station } }
      else { s.rewritten k g h with
        tally := { s.tally with
          aboardAt := if moves then passedOn s.tally.aboardAt g.station h.station else s.tally.aboardAt } }
      ).evaluateWatches s.tally := by
  by_cases hstill : h.station = g.station ∨ g.presence ≠ .aboard
  · have hno : moves = false := by
      rw [hmoves]
      rcases hstill with hx | ha
      · simp [hx]
      · simp [ha]
    rw [amend_still hstill, hno]
    exact (evaluateWatches_self (s.rewritten k g h)).symm
  · obtain ⟨hx, ha⟩ := not_or.1 hstill
    have ha := not_not.1 ha
    have hyes : moves = true := by simp [hmoves, hx, ha]
    by_cases hm : s.mode.muster = true ∧ g.epoch ≠ s.tally.epoch
    · obtain ⟨hmuster, he⟩ := hm
      rw [amend_missing hx ha hmuster he, hyes, hmuster, decide_eq_true he]
      rfl
    · have hout : (s.mode.muster && decide (g.epoch ≠ s.tally.epoch)) = false := by simpa using hm
      rw [amend_moved hx ha hm, hyes, Bool.true_and, hout]
      rfl

section All

variable {s : State} {tag : Byte} {k junk : Nat} {g h : Guest} {reference : Option Nat}
  {code : Option (Option CabinCode)} {folio : Option (Option Nat)} {band : Option AgeBand} {may : Option Bool}
  {limit : Option (Option Nat)} {station : Option (Fin 16)} {watch : Option Bool} {cabin : Option Nat}

/-- A frame of all eight fields. -/
theorem amend_all_done (h0 : s.SlotEmpty) (hrec : s.HasRecords) (hk : k < 65536)
    (hcaps : k < s.store.caps.guests) (hg : s.guestAt k = some g)
    (hh : h = { g with
      reference := reference.getD g.reference, cabin := cabin, folio := folio.getD g.folio
      band := band.getD g.band, mayCharge := may.getD g.mayCharge
      dayLimit := (limit.map (Option.map (fun l => min l 10000000))).getD g.dayLimit
      station := station.getD g.station, watch := watch.getD g.watch })
    (hreference : ∀ r ∈ reference, s.mayTake g r)
    (hlimit : ∀ l ∈ limit.join, l < 4294967296) (hunchanged : code = none → cabin = g.cabin)
    (habsent : code = some none → cabin = none)
    (hgiven : ∀ x, code = some (some x) → ∃ c, s.store.cabinIndex x = some c ∧ cabin = some c)
    (hroom : ∀ c, cabin = some c → g.cabin ≠ cabin → (s.cabinAt c).occupants.length < 6)
    (hfolio : ∀ b, folio = some (some b) → b < 65536 ∧ b < s.store.caps.folios)
    (hheld : h.folio ≠ g.folio → g.held = 0) (hopen : h.folio ≠ g.folio → ∀ b, h.folio = some b → s.folioOpen b) :
    AmendDone s tag (amendGiven k junk reference code folio band may limit (station.map Fin.val) watch)
      (s.amend k g h) := by
  obtain ⟨decoded, hdecoded, hcabin⟩ : ∃ decoded, s.store.decodeOptional code.join = some decoded
      ∧ (if code.isSome then decoded else g.cabin) = cabin := by
    rcases code with _ | _ | x
    · exact ⟨none, rfl, (hunchanged rfl).symm⟩
    · exact ⟨none, rfl, (habsent rfl).symm⟩
    · obtain ⟨c, hc, rfl⟩ := hgiven x rfl
      exact ⟨some c, congrArg (Option.map some) hc, rfl⟩
  refine amendGiven_done h0 hrec hk hcaps hg hreference hlimit hdecoded
    (fun b hb => hfolio b (Option.join_eq_some_iff.1 hb)) ?_ hheld (fun hne b hb => hopen hne b hb)
    (fun hne c hc => ?_) rfl
  · rw [hh, AmendValues.guest, hcabin]
    rfl
  · have hsame : h.cabin = cabin := by rw [hh]
    rw [hsame] at hne hc
    exact hroom c hc (Ne.symm hne)

end All

/-! ### The refusals -/

section Refused

variable {s : State} {tag : Byte} {k reference folio band may limit station watch m1 m2 m3 m4 m5 m6 m7 m8 : Nat}
  {code : CabinCode} {g : Guest}

/-- The fields of a frame are known and in range (tests 2 of R43). -/
abbrev AmendValid (s : State) (reference folio band may station watch m1 m2 m3 m4 m5 m6 m7 m8 : Nat) : Prop :=
  (m1 = 2 ∨ (m1 = 1 ∧ reference ≠ 0)) ∧ m2 ≤ 2 ∧ (m3 = 0 ∨ m3 = 2 ∨ (m3 = 1 ∧ folio < s.store.caps.folios))
    ∧ (m4 = 2 ∨ (m4 = 1 ∧ band ≤ 2)) ∧ (m5 = 2 ∨ (m5 = 1 ∧ may ≤ 1)) ∧ m6 ≤ 2 ∧ (m7 = 2 ∨ (m7 = 1 ∧ station ≤ 15))
    ∧ (m8 = 2 ∨ (m8 = 1 ∧ watch ≤ 1))

theorem mem_changedBy {α : Type} {m : Nat} {v x : α} : x ∈ changedBy m v ↔ m = 1 ∧ x = v := by
  unfold changedBy
  split <;> simp_all [eq_comm]

theorem mem_join_remadeBy {α : Type} {m : Nat} {v x : α} : x ∈ (remadeBy m v).join ↔ m = 1 ∧ x = v := by
  rw [join_remadeBy]
  split <;> simp_all [eq_comm]

theorem amendValid_iff : AmendValid s reference folio band may station watch m1 m2 m3 m4 m5 m6 m7 m8 ↔
    AmendKnown m1 m2 m3 m4 band m5 may m6 m7 station m8 watch ∧ (∀ r ∈ changedBy m1 reference, r ≠ 0)
      ∧ ∀ f ∈ (remadeBy m3 folio).join, f < s.store.caps.folios := by
  have hreference : (∀ r ∈ changedBy m1 reference, r ≠ 0) ↔ (m1 = 1 → reference ≠ 0) := by
    simp only [mem_changedBy, and_imp, forall_comm (α := Nat), forall_eq]
  have hfolio : (∀ f ∈ (remadeBy m3 folio).join, f < s.store.caps.folios) ↔ (m3 = 1 → folio < s.store.caps.folios) := by
    simp only [mem_join_remadeBy, and_imp, forall_comm (α := Nat), forall_eq]
  have hm1 : (m1 = 2 ∨ (m1 = 1 ∧ reference ≠ 0)) ↔ (m1 = 2 ∨ m1 = 1) ∧ (m1 = 1 → reference ≠ 0) := by omega
  have hm3 : (m3 = 0 ∨ m3 = 2 ∨ (m3 = 1 ∧ folio < s.store.caps.folios))
      ↔ m3 ≤ 2 ∧ (m3 = 1 → folio < s.store.caps.folios) := by omega
  rw [hreference, hfolio, AmendValid, hm1, hm3]
  simp only [AmendKnown, Nat.lt_succ_iff]
  constructor
  · rintro ⟨⟨h1, hne⟩, h2, ⟨h3, hin⟩, hrest⟩
    exact ⟨⟨h1, h2, h3, hrest⟩, hne, hin⟩
  · rintro ⟨⟨h1, h2, h3, hrest⟩, hne, hin⟩
    exact ⟨⟨h1, hne⟩, h2, ⟨h3, hin⟩, hrest⟩

variable (h0 : s.SlotEmpty) (hrec : s.HasRecords) (hk : k < 65536) (hr : reference < 4294967296) (hf : folio < 65536)
  (hb : band < 256) (hm : may < 256) (hl : limit < 4294967296) (hst : station < 65536) (hw : watch < 256)
  (hmarks : ∀ m ∈ [m1, m2, m3, m4, m5, m6, m7, m8], m < 256)

include h0 hrec hk hr hf hb hm hl hst hw hmarks

/-- The command with a payload of numbers answers a result and changes no more than the link. -/
abbrev AmendRefused (s : State) (tag : Byte) (p : List Byte) (r : Result) : Prop :=
  exec (.amendGuest (frameOf tag p)) s = .next (s.answered 0x31 (frameOf tag p) r [])

theorem amend_refused_notFound (h : s.store.caps.guests ≤ k ∨ s.guestAt k = none) : AmendRefused s tag
    (amendPayload k m1 reference m2 code m3 folio m4 band m5 may m6 limit m7 station m8 watch) .notFound := by
  refine amendPayload_refused h0 hrec (amendGuest_notFound ?_)
  rw [readAmendGuest_bounded hk hr hf hb hm hl hst hw hmarks]
  exact State.namedGuest_eq_none h

variable (hcaps : k < s.store.caps.guests) (hg : s.guestAt k = some g)

include hcaps hg

theorem amend_refused_range (h : ¬ AmendValid s reference folio band may station watch m1 m2 m3 m4 m5 m6 m7 m8) :
    AmendRefused s tag (amendPayload k m1 reference m2 code m3 folio m4 band m5 may m6 limit m7 station m8 watch)
      .range := by
  have hread := readAmendGuest_bounded (code := code) hk hr hf hb hm hl hst hw hmarks
  refine amendPayload_refused h0 hrec (amendGuest_range (g := g) ?_ fun v hv hrange => h ?_)
  · rw [hread]
    exact State.namedGuest_eq_some hcaps hg
  · rw [hread] at hv
    obtain ⟨hknown, hreference, hfolio⟩ := amend_known_of_values hv
    obtain ⟨hne, hin⟩ := hrange
    exact amendValid_iff.2 ⟨hknown, hreference ▸ hne, hfolio ▸ hin⟩

/-- A frame of valid fields, and the tests of its values that refuse it. -/
theorem amend_refused_of_valid (h : AmendValid s reference folio band may station watch m1 m2 m3 m4 m5 m6 m7 m8) :
    ∃ v : AmendValues, v.InRange s ∧ v.reference = changedBy m1 reference ∧ v.code = remadeBy m2 code
      ∧ v.folio = remadeBy m3 folio ∧ ∀ r, s.amendWith k g v = .error (r, []) → AmendRefused s tag
        (amendPayload k m1 reference m2 code m3 folio m4 band m5 may m6 limit m7 station m8 watch) r := by
  obtain ⟨hknown, hne, hin⟩ := amendValid_iff.1 h
  obtain ⟨v, hv, hreference, hcode, hfolio⟩ := amend_values_of_known (k := k) (reference := reference) (code := code)
    (folio := folio) (limit := limit) hknown g
  have hread := readAmendGuest_bounded (code := code) hk hr hf hb hm hl hst hw hmarks
  refine ⟨v, ⟨hreference ▸ hne, hfolio ▸ hin⟩, hreference, hcode, hfolio, fun r hr => ?_⟩
  refine amendPayload_refused h0 hrec ?_
  have hnamed : s.namedGuest k = some g := State.namedGuest_eq_some hcaps hg
  rw [amendGuest_of_values (g := g) (v := v) (by rw [hread]; exact hnamed) (by rw [hread]; exact hv), hread]
  exact hr

end Refused

end Sys2Proof.Machine
end

section
/-! AMEND_GUEST (R43 to R47): its statement. -/

namespace Sys2Proof.Machine

section Values

variable {s : State} {g : Guest} {v : AmendValues} {reference folio m1 m2 m3 : Nat} {code : CabinCode}
  {decoded : Option Nat}

/-- The folio that a marker leaves to a guest (R43). -/
theorem getD_remadeBy (m folio : Nat) (old : Option Nat) : (remadeBy m folio).getD old
    = if m = 2 then old else if m = 1 then some folio else none := by
  unfold remadeBy
  split_ifs <;> rfl

theorem guest_folio (hfolio : v.folio = remadeBy m3 folio) : (v.guest g decoded).folio
    = if m3 = 2 then g.folio else if m3 = 1 then some folio else none := by
  rw [← getD_remadeBy, ← hfolio]
  rfl

theorem guest_cabin (hcode : v.code = remadeBy m2 code) : (v.guest g (s.store.markedCabin m2 code)).cabin
    = if m2 = 2 then g.cabin else if m2 = 1 then (s.store.decode code).map Prod.snd else none := by
  have hcabin : (v.guest g (s.store.markedCabin m2 code)).cabin
      = if (remadeBy m2 code).isSome then s.store.markedCabin m2 code else g.cabin := by
    rw [← hcode]
    rfl
  rw [hcabin, remadeBy]
  by_cases h2 : m2 = 2
  · rw [if_pos h2, if_pos h2]
    rfl
  · rw [if_neg h2, if_neg h2]
    show _ = s.store.markedCabin m2 code
    split <;> rfl

/-- The test for a reference that another guest holds (R43). -/
theorem reference_taken_iff (hreference : v.reference = changedBy m1 reference) :
    ((v.guest g decoded).reference ≠ g.reference → s.findReference (v.guest g decoded).reference = none)
      ↔ ¬ (m1 = 1 ∧ reference ≠ g.reference ∧ ∃ e ∈ s.roster.guests, e.2.reference = reference) := by
  have hvalue : (v.guest g decoded).reference = (changedBy m1 reference).getD g.reference := by
    rw [← hreference]
    rfl
  rw [hvalue, findReference_eq_none_iff, changedBy]
  by_cases h1 : m1 = 1
  · rw [if_pos h1]
    simp only [Option.getD_some, h1, true_and, not_and, not_exists, ne_eq]
  · rw [if_neg h1]
    exact iff_of_true (absurd rfl) fun ⟨h, _⟩ => h1 h

/-- The test for a folio that is not OPEN (R43). -/
theorem folio_open_iff (hfolio : v.folio = remadeBy m3 folio) :
    ((v.guest g decoded).folio ≠ g.folio → ∀ f ∈ (v.guest g decoded).folio, s.folioOpen f)
      ↔ ¬ ((if m3 = 2 then g.folio else if m3 = 1 then some folio else none) ≠ g.folio ∧ m3 = 1
        ∧ ∀ x, s.folioAt folio = some x → x.state ≠ .opened) := by
  rw [guest_folio hfolio]
  by_cases h1 : m3 = 1
  · subst h1
    simp
  · have hnone : ∀ f, f ∈ (if m3 = 2 then g.folio else if m3 = 1 then some folio else none) → m3 = 2 := fun f hf => by
      by_contra h2
      rw [if_neg h2, if_neg h1] at hf
      cases hf
    refine iff_of_true (fun hne f hf => absurd ?_ hne) fun ⟨_, h, _⟩ => h1 h
    rw [if_pos (hnone f hf)]

end Values

/-- Settles O23: the values of the fields, the tests in their order, and each owner's part. -/
theorem amendGuestFields : Obligations.AmendGuestFields := by
  unfold Obligations.AmendGuestFields
  constructor
  · intro s tag k junk g h0 hrec hk hcaps hg payload done record left
    refine ⟨?_, ?_, ?_, ?_, ?_, ?_⟩
    · intro reference band may limit watch hreference hlimit
      exact amend_record_done h0 hrec hk hcaps hg hreference hlimit
    · intro code c hdecoded hne hroom old joined
      exact amend_toCabin_done h0 hrec hk hcaps hg hdecoded hne hroom
    · intro b hb
      have hdone := amend_noCabin_done (tag := tag) (junk := junk) h0 hrec hk hcaps hg
      rw [hb] at hdone
      exact hdone
    · intro hheld dropped habsent hpresent
      have hwithout : s.FoliosWithout g.folio dropped := ⟨habsent, hpresent⟩
      exact ⟨fun b y hlt hcap hne hy hopened =>
          amend_toFolio_done h0 hrec hk hcaps hg hheld hwithout hlt hcap hne hy hopened,
        fun _ => amend_noFolio_done h0 hrec hk hcaps hg hheld hwithout⟩
    · intro x hx moved p t
      have hrewritten : s.rewritten k g { g with station := x } = record { g with station := x } :=
        State.rewritten_station rfl rfl
      refine ⟨fun ha => amend_station_done h0 hrec hk hcaps hg ?_,
        fun ha hm => amend_station_done h0 hrec hk hcaps hg ?_,
        fun ha hm he => amend_station_done h0 hrec hk hcaps hg ?_⟩
      · rw [State.amend_still (.inr ha), hrewritten]
      · have hcalm : ¬ (s.mode.muster = true ∧ g.epoch ≠ s.tally.epoch) := fun ⟨hmuster, he⟩ =>
          hm.elim (fun hno => absurd hmuster (Bool.eq_false_iff.1 hno)) he
        rw [State.amend_moved (h := { g with station := x }) hx ha hcalm, hrewritten]
      · rw [State.amend_missing (h := { g with station := x }) hx ha hm he, hrewritten]
    · intro reference code folio band may limit station watch cabin dropped folios h hreference hlimit hunchanged
        habsent hgiven hroom hfolio hheld hdrop hleave hstay hjoin old cabins moved moves t
      have hdone := amend_all_done (tag := tag) (junk := junk) (h := h) h0 hrec hk hcaps hg rfl hreference hlimit
        hunchanged habsent hgiven hroom hfolio hheld fun hne b hb => by
          obtain ⟨y, hy, hopened, -⟩ := hjoin hne b hb
          exact folioOpen_iff.2 ⟨y, hy, hopened⟩
      have hrewritten : s.rewritten k g h = { record h with
          cabin := { s.cabin with cabins := cabins }, folio := { s.folio with folios := folios } } := by
        rw [State.rewritten, State.recabin_cabins, State.refolio_folios hdrop hleave hstay hjoin]
        rfl
      rw [State.amend_all (moves := moves) rfl, hrewritten] at hdone
      exact hdone
  · intro s tag k reference folio band may limit station watch m1 m2 m3 m4 m5 m6 m7 m8 code h0 hrec hk hr hf hb hm hl
      hst hw hmarks f refused valid decodes
    refine ⟨fun hno => amend_refused_notFound h0 hrec hk hr hf hb hm hl hst hw hmarks hno, ?_⟩
    intro g hcaps hg folio' cabin' held bound notOpen crowded
    refine ⟨amend_refused_range h0 hrec hk hr hf hb hm hl hst hw hmarks hcaps hg, fun hvalid => ?_⟩
    obtain ⟨v, hrange, hreference, hcode, hfolio, hwith⟩ := amend_refused_of_valid (tag := tag) (code := code)
      h0 hrec hk hr hf hb hm hl hst hw hmarks hcaps hg hvalid
    have hjoin : v.code.join = if m2 = 1 then some code else none := by rw [hcode, join_remadeBy]
    refine ⟨fun hbad => hwith _ (amendWith_badCabin hrange ?_), fun hgood => ?_⟩
    · rw [hjoin, decodeOptional_marked_none hbad]
    have hdecoded := decodeOptional_marked hgood
    rw [← hjoin] at hdecoded
    have htaken := reference_taken_iff (s := s) (g := g) (decoded := s.store.markedCabin m2 code) hreference
    have hopened := folio_open_iff (s := s) (g := g) (decoded := s.store.markedCabin m2 code) hfolio
    have hfolio' : (v.guest g (s.store.markedCabin m2 code)).folio = folio' := guest_folio hfolio
    have hcabin' : (v.guest g (s.store.markedCabin m2 code)).cabin = cabin' := guest_cabin hcode
    refine ⟨fun hheld => hwith _ (amendWith_duplicate hrange hdecoded fun h => htaken.1 h hheld), fun hfree => ?_⟩
    have hfree := htaken.2 hfree
    refine ⟨fun ⟨hne, hholds⟩ => hwith _ (amendWith_holdsPending hrange hdecoded hfree fun h =>
      hholds (h (hfolio' ▸ hne))), fun hunbound => ?_⟩
    have hheld : (v.guest g (s.store.markedCabin m2 code)).folio ≠ g.folio → g.held = 0 := fun hne =>
      not_not.1 fun hholds => hunbound ⟨hfolio' ▸ hne, hholds⟩
    refine ⟨fun hclosed => hwith _ (amendWith_folioState hrange hdecoded hfree hheld fun h => hopened.1 h hclosed),
      fun hopen hcrowded => hwith _ (amendWith_limit hrange hdecoded hfree hheld (hopened.2 hopen) fun hroom => ?_)⟩
    obtain ⟨hne, c, hc, hsix⟩ := hcrowded
    have hlt : (s.cabinAt c).occupants.length < 6 := hroom (hcabin' ▸ hne) c (hcabin' ▸ hc)
    omega

end Sys2Proof.Machine
end

section
/-! The check of a code's deck at a lane (R15a), and the decision of a PRIVACY report (R58). -/

namespace Sys2Proof.Machine

/-! ### The lane check -/

section OnLane

variable {st : Store} {n : Fin 4} {code : CabinCode} {deck i : Nat}

/-- The range of a lane holds the deck; an empty range holds none (R15, R15a). -/
abbrev Store.OnLane (st : Store) (n : Fin 4) (deck : Nat) : Prop :=
  ∃ x, cell st.laneDecks n = some x ∧ x.low ≤ deck ∧ deck ≤ x.high

theorem decodeOnLane_badCabin (h : st.decode code = none) : st.decodeOnLane n code = .error (.badCabin, []) := by
  simp only [Store.decodeOnLane, h, demand_none, error_bind]

variable (h : st.decode code = some (deck, i))

include h

theorem decodeOnLane_wrongLane (hl : ¬ st.OnLane n deck) : st.decodeOnLane n code = .error (.wrongLane, []) := by
  simp only [Store.decodeOnLane, h, demand_some, ok_bind]
  cases hx : cell st.laneDecks n with
  | none => rw [demand_none, error_bind]
  | some x => rw [demand_some, ok_bind, test_not fun hr => hl ⟨x, hx, hr⟩, error_bind]

theorem decodeOnLane_ok (hl : st.OnLane n deck) : st.decodeOnLane n code = .ok (deck, i) := by
  obtain ⟨x, hx, hr⟩ := hl
  simp only [Store.decodeOnLane, h, hx, demand_some, ok_bind, test_of hr]
  rfl

end OnLane

/-! ### PRIVACY -/

theorem readPrivacy_encoded (code : CabinCode) (latch : Bool) :
    readPrivacy (eCode code ++ e8 latch.toNat) = ⟨code, latch⟩ := by
  have hlatch : u8 (eCode code ++ e8 latch.toNat) 3 = latch.toNat := by
    have := u8_after_eCode code (e8 latch.toNat) 0
    cases latch <;> simp_all
  rw [readPrivacy, hlatch, cabinCodeAt_eCode]
  cases latch <;> rfl

theorem eMark_eq (b : Bool) : eMark b = e8 b.toNat := by cases b <;> rfl

/-- A refused PRIVACY report changes nothing. -/
theorem decidePrivacy_refused {s : State} {n : Fin 4} {r : Request} {x : Reason} {data : List Byte}
    (h : privacyTests n (readPrivacy r.payload) s = .error (x, data)) : decidePrivacy n r s = ⟨s, x, data⟩ := by
  simp only [decidePrivacy, h, error_bind, decided]

section Privacy

variable {s : State} {n : Fin 4} {a : PrivacyFields} {deck i : Nat} (hs : s.Serves)

include hs

theorem privacyTests_lane {x : Reason} (h : s.store.decodeOnLane n a.code = .error (x, [])) :
    privacyTests n a s = .error (x, []) := by
  simp only [privacyTests, test_of hs.serving, h, ok_bind, error_bind]

variable (h : s.store.decodeOnLane n a.code = .ok (deck, i))

include h

theorem privacyTests_ignored (ho : (s.cabinAt i).occupants = []) : privacyTests n a s = .error (.ignored, []) := by
  simp only [privacyTests, test_of hs.serving, h, ok_bind, test_not (not_not_intro ho), error_bind]

theorem privacyTests_ok (ho : (s.cabinAt i).occupants ≠ []) : privacyTests n a s = .ok i := by
  simp only [privacyTests, test_of hs.serving, h, ok_bind, test_of ho]
  rfl

end Privacy

/-- Settles O29: the tests of R15a and R58 in their order, then the flag. -/
theorem privacyReports : Obligations.PrivacyReports := by
  intro s n r rest code latch hheads hk hpay hrun hpart hscrub replied
  have hs : s.Serves := ⟨hrun, hpart, hscrub⟩
  have hread : readPrivacy r.payload = ⟨code, latch⟩ := by rw [hpay, readPrivacy_encoded]
  have stop : ∀ x, privacyTests n ⟨code, latch⟩ s = .error (x, []) → replied s x [] := fun x hx =>
    next_take (k := .privacy) hheads hk (decidePrivacy_refused (hread ▸ hx))
  refine ⟨fun hd => stop _ (privacyTests_lane hs (decodeOnLane_badCabin hd)), ?_⟩
  intro deck i hd onLane noted
  refine ⟨fun hl => stop _ (privacyTests_lane hs (decodeOnLane_wrongLane hd hl)), fun hl ho => ?_,
    fun hl ho => stop _ (privacyTests_ignored hs (decodeOnLane_ok hd hl) ho)⟩
  refine next_take (k := .privacy) hheads hk ?_
  simp only [decidePrivacy, hread, privacyTests_ok (a := ⟨code, latch⟩) hs (decodeOnLane_ok hd hl) ho, eMark_eq]
  rfl

end Sys2Proof.Machine
end

section
/-! The decision of an ENTRY request: tests 4 to 9 of R66 for a card that has resolved, each with the ones before it
passed (R65 to R71). -/

namespace Sys2Proof.Machine

namespace State

variable {s : State} {deck i : Nat} {c : Resolution}

/-! ### The override test (R65) -/

section OverrideTest

variable {m : Fin 8} {o : Override} (h : s.activeOverride i = some (m, o))

theorem overrideTest_unnamed (hnone : s.activeOverride i = none) : s.overrideTest i c = .ok false := by
  rw [overrideTest, hnone]

include h

theorem overrideTest_denyAll (ha : o.action = .denyAll) : s.overrideTest i c = .error (.denyOverride, []) := by
  simp only [overrideTest, h, ha]

theorem overrideTest_serviceOnly_guest {k : Nat} (ha : o.action = .serviceOnly) (hc : c.holder = .guest k) :
    s.overrideTest i c = .error (.denyOverride, []) := by
  simp only [overrideTest, h, ha, hc]

theorem overrideTest_serviceOnly_service {x : DeckRange} (ha : o.action = .serviceOnly) (hc : c.holder = .service x) :
    s.overrideTest i c = .ok false := by
  simp only [overrideTest, h, ha, hc]

theorem overrideTest_admitOne_other {x : Nat} (ha : o.action = .admitOne x) (hx : c.serial ≠ x) :
    s.overrideTest i c = .error (.denyOverride, []) := by
  simp only [overrideTest, h, ha, if_neg hx]

theorem overrideTest_admitOne_self (ha : o.action = .admitOne c.serial) : s.overrideTest i c = .ok true := by
  simp only [overrideTest, h, ha, ↓reduceIte]

end OverrideTest

/-! ### The occupant and the service decision (R68 to R70) -/

section Occupant

variable {k : Nat}

theorem admitOccupant_notOccupant (h : k ∉ (s.cabinAt i).occupants) :
    s.admitOccupant i k = .error (.notOccupant, []) := by
  unfold admitOccupant
  split
  · rfl
  · rw [if_neg h]

variable {g : Guest} (hg : s.guestAt k = some g) (h : k ∈ (s.cabinAt i).occupants)

include hg h

theorem admitOccupant_departed (hp : g.presence = .departed) : s.admitOccupant i k = .error (.denyDeparted, []) := by
  simp only [admitOccupant, hg, if_pos h, hp]

theorem admitOccupant_aboard (hp : g.presence = .aboard) :
    s.admitOccupant i k = .ok ⟨s, .admitted, e8 2 ++ e8 0⟩ := by
  simp only [admitOccupant, hg, if_pos h, hp]
  rfl

theorem admitOccupant_corrected (hp : g.presence = .expected ∨ g.presence = .ashore) :
    s.admitOccupant i k = .ok ⟨s.correctPresence k g, .admitted, e8 2 ++ e8 1⟩ := by
  rcases hp with hp | hp <;> (simp only [admitOccupant, hg, if_pos h, hp]; rfl)

end Occupant

section Service

variable {x : DeckRange}

theorem admitService_denyClass (h : deck < x.low ∨ x.high < deck) :
    s.admitService deck i x = .error (.denyClass, []) := by
  have h' : ¬ (x.low ≤ deck ∧ deck ≤ x.high) := by omega
  rw [admitService, test_not h', error_bind]

variable (hdeck : x.low ≤ deck ∧ deck ≤ x.high)

include hdeck

theorem admitService_denyPrivacy (h : (s.cabinAt i).privacy = true) :
    s.admitService deck i x = .error (.denyPrivacy, []) := by
  have h' : ¬ (s.cabinAt i).privacy = false := by simp [h]
  simp only [admitService, test_of hdeck, test_not h', ok_bind, error_bind]

variable (hpriv : (s.cabinAt i).privacy = false)

include hpriv

theorem admitService_denyWindow (h : insideWindow (s.cabinAt i).window s.clock.minute = false) :
    s.admitService deck i x = .error (.denyWindow, []) := by
  have h' : ¬ insideWindow (s.cabinAt i).window s.clock.minute = true := by simp [h]
  simp only [admitService, test_of hdeck, test_of hpriv, test_not h', ok_bind, error_bind]

theorem admitService_ok (h : insideWindow (s.cabinAt i).window s.clock.minute = true) :
    s.admitService deck i x = .ok ⟨s, .admitted, e8 3⟩ := by
  simp only [admitService, test_of hdeck, test_of hpriv, test_of h, ok_bind]
  rfl

end Service

/-! ### The class of the card (tests 7 to 9 of R66) -/

theorem admitByClass_denyOutOfOrder (h : (s.cabinAt i).outOfOrder = true) :
    s.admitByClass deck i c = .error (.denyOutOfOrder, []) := by
  have h' : ¬ (s.cabinAt i).outOfOrder = false := by simp [h]
  rw [admitByClass, test_not h', error_bind]

theorem admitByClass_guest {k : Nat} (h : (s.cabinAt i).outOfOrder = false) (hc : c.holder = .guest k) :
    s.admitByClass deck i c = s.admitOccupant i k := by
  simp only [admitByClass, test_of h, ok_bind, hc]

theorem admitByClass_service {x : DeckRange} (h : (s.cabinAt i).outOfOrder = false) (hc : c.holder = .service x) :
    s.admitByClass deck i c = s.admitService deck i x := by
  simp only [admitByClass, test_of h, ok_bind, hc]

/-! ### A resolved card (tests 4 to 6 of R66) -/

theorem admitCard_officer (h : c.holder = .officer) : s.admitCard deck i c = .ok ⟨s, .admitted, e8 0⟩ := by
  rw [admitCard, if_pos h]
  rfl

section AdmitCard

variable (hc : c.holder ≠ .officer)

include hc

theorem admitCard_denyMode (h : s.mode.lockdown = true) : s.admitCard deck i c = .error (.denyMode, []) := by
  have h' : ¬ s.mode.lockdown = false := by simp [h]
  rw [admitCard, if_neg hc, test_not h', error_bind]

variable (hm : s.mode.lockdown = false)

include hm

theorem admitCard_denyOverride (h : s.overrideTest i c = .error (.denyOverride, [])) :
    s.admitCard deck i c = .error (.denyOverride, []) := by
  simp only [admitCard, if_neg hc, test_of hm, ok_bind, h, error_bind]

theorem admitCard_override (h : s.overrideTest i c = .ok true) :
    s.admitCard deck i c = .ok ⟨s, .admitted, e8 1⟩ := by
  simp only [admitCard, if_neg hc, test_of hm, ok_bind, h]
  rfl

theorem admitCard_byClass (h : s.overrideTest i c = .ok false) :
    s.admitCard deck i c = s.admitByClass deck i c := by
  simp only [admitCard, if_neg hc, test_of hm, ok_bind, h]
  rfl

end AdmitCard

end State

/-! ### The decision -/

theorem readEntry_encoded {serial issue : Nat} (code : CabinCode) (hs : serial < 4294967296) (hi : issue < 256) :
    readEntry (eCode code ++ e32 serial ++ e8 issue) = ⟨code, serial, issue⟩ := by
  have hserial := u32_after_eCode code (e32 serial ++ e8 issue) 0
  have hissue := u8_after_eCode code (e32 serial ++ e8 issue) 4
  have hbyte := u8_after_e32 serial (e8 issue) 0
  simp_all [readEntry, presentationAt, List.append_assoc, Nat.mod_eq_of_lt]

/-- Tests 2 to 9 of R66, the fields read. -/
def State.entryTests (s : State) (n : Fin 4) (a : EntryFields) : Decision Decided := do
  let place ← s.store.decodeOnLane n a.code
  let c ← s.resolve a.card
  s.admitCard place.1 place.2 c

/-- Where the part serves, tests 2 to 9 decide an ENTRY. -/
theorem decideEntry_eq {s : State} {n : Fin 4} {r : Request} {a : EntryFields} (hs : s.Serves)
    (ha : readEntry r.payload = a) : decideEntry n r s = decided s (s.entryTests n a) := by
  obtain rfl := ha
  simp only [decideEntry, test_of hs.serving, ok_bind]
  rfl

section EntryTests

variable {s : State} {n : Fin 4} {a : EntryFields} {deck i : Nat} {x : Reason}

theorem entryTests_lane (h : s.store.decodeOnLane n a.code = .error (x, [])) :
    s.entryTests n a = .error (x, []) := by
  rw [State.entryTests, h, error_bind]

variable (h : s.store.decodeOnLane n a.code = .ok (deck, i))

include h

theorem entryTests_unresolved (hc : s.resolve a.card = .error (x, [])) : s.entryTests n a = .error (x, []) := by
  simp only [State.entryTests, h, hc, ok_bind, error_bind]

theorem entryTests_resolved {c : Resolution} (hc : s.resolve a.card = .ok c) :
    s.entryTests n a = s.admitCard deck i c := by
  simp only [State.entryTests, h, hc, ok_bind]

end EntryTests

/-- Settles O27: the tests of R66 in their order, then the decision that the card's class calls for. -/
theorem entryAdmissions : Obligations.EntryAdmissions := by
  intro s n r rest code serial issue hheads hk hpay hserial hissue hrun hpart hscrub admitted refused
  have hdecide : decideEntry n r s = decided s (s.entryTests n ⟨code, serial, issue⟩) :=
    decideEntry_eq ⟨hrun, hpart, hscrub⟩ (by rw [hpay, readEntry_encoded code hserial hissue])
  have stop : ∀ x, s.entryTests n ⟨code, serial, issue⟩ = .error (x, []) → refused x := fun x hx =>
    next_take (k := .entry) hheads hk (by rw [hdecide, hx, decided_error])
  refine ⟨fun hd => stop _ (entryTests_lane (decodeOnLane_badCabin hd)), ?_⟩
  intro deck i hd onLane
  refine ⟨fun hl => stop _ (entryTests_lane (decodeOnLane_wrongLane hd hl)),
    fun hl x hx => stop _ (entryTests_unresolved (decodeOnLane_ok hd hl) hx), fun hl c hc => ?_⟩
  have hcard := entryTests_resolved (a := ⟨code, serial, issue⟩) (decodeOnLane_ok hd hl) hc
  have deny : ∀ x, s.admitCard deck i c = .error (x, []) → refused x := fun x hx => stop x (hcard.trans hx)
  have accept : ∀ t data, s.admitCard deck i c = .ok ⟨t, .admitted, data⟩ → admitted t data := fun t data ht =>
    next_take (k := .entry) hheads hk (by rw [hdecide, hcard, ht, decided_ok])
  refine ⟨fun ho => accept _ _ (State.admitCard_officer ho), fun ho hm => deny _ (State.admitCard_denyMode ho hm),
    fun ho hm => ⟨fun m o hover => ?_, fun hover => ?_⟩⟩
  · have denyOverride := fun h => deny _ (State.admitCard_denyOverride ho hm h)
    exact ⟨fun ha => denyOverride (State.overrideTest_denyAll hover ha),
      fun ha ⟨k, hg⟩ => denyOverride (State.overrideTest_serviceOnly_guest hover ha hg),
      fun x ha hx => denyOverride (State.overrideTest_admitOne_other hover ha hx),
      fun ha => accept _ _ (State.admitCard_override ho hm (State.overrideTest_admitOne_self hover ha))⟩
  · have hpass : s.overrideTest i c = .ok false := by
      rcases hover with hnone | ⟨m, o, x, hover, ha, hx⟩
      · exact State.overrideTest_unnamed hnone
      · exact State.overrideTest_serviceOnly_service hover ha hx
    have hclass : s.admitCard deck i c = s.admitByClass deck i c := State.admitCard_byClass ho hm hpass
    rw [hclass] at deny
    simp only [hclass] at accept
    refine ⟨fun hout => deny _ (State.admitByClass_denyOutOfOrder hout), fun hin => ⟨fun k hg => ?_, fun x hx => ?_⟩⟩
    · rw [State.admitByClass_guest hin hg] at deny
      simp only [State.admitByClass_guest hin hg] at accept
      exact ⟨fun hno => deny _ (State.admitOccupant_notOccupant hno), fun g hat hmem =>
        ⟨fun hp => deny _ (State.admitOccupant_departed hat hmem hp),
          fun hp => accept _ _ (State.admitOccupant_aboard hat hmem hp),
          fun hp => accept _ _ (State.admitOccupant_corrected hat hmem hp)⟩⟩
    · rw [State.admitByClass_service hin hx] at deny
      simp only [State.admitByClass_service hin hx] at accept
      refine ⟨fun hno => deny _ (State.admitService_denyClass hno), fun hlow hhigh => ?_⟩
      have hdeck := And.intro hlow hhigh
      exact ⟨fun hpriv => deny _ (State.admitService_denyPrivacy hdeck hpriv), fun hpriv =>
        ⟨fun hw => deny _ (State.admitService_denyWindow hdeck hpriv hw),
          fun hw => accept _ _ (State.admitService_ok hdeck hpriv hw)⟩⟩

end Sys2Proof.Machine
end

section
/-! The service window and the override that acts at a cabin (R60, R62). -/

namespace Sys2Proof.Machine

/-! ### The service window (R60) -/

theorem insideWindow_some (w : Window) (m : Nat) : insideWindow (some w) m = true ↔
    (w.start < w.stop ∧ w.start ≤ m ∧ m < w.stop) ∨ (w.stop < w.start ∧ (w.start ≤ m ∨ m < w.stop))
      ∨ w.start = w.stop := by
  show w.inside m = true ↔ _
  rcases lt_trichotomy w.start w.stop with h | h | h
  · rw [Window.inside, if_pos h, decide_eq_true_eq]
    omega
  · rw [Window.inside, if_neg (by omega), if_neg (by omega)]
    simp [h]
  · rw [Window.inside, if_neg (by omega), if_pos h, decide_eq_true_eq]
    omega

/-! ### The override slots (R62) -/

/-- What the search for the acting override finds in one slot. -/
def State.actingIn (s : State) (i : Nat) (n : Fin 8) : Option (Fin 8 × Override) :=
  ((cell s.cabin.overrides n).filter (fun o => o.enable && o.index == i)).map (n, ·)

theorem activeOverride_eq (s : State) (i : Nat) : s.activeOverride i = (List.finRange 8).findSome? (s.actingIn i) := by
  rw [State.activeOverride]
  congr 1
  funext n
  rw [State.actingIn]
  cases cell s.cabin.overrides n with
  | none => rfl
  | some o => by_cases h : o.enable = true ∧ o.index = i <;> simp [h, Option.filter]

theorem actingIn_eq_some {s : State} {i : Nat} {n m : Fin 8} {o : Override} :
    s.actingIn i n = some (m, o) ↔ n = m ∧ cell s.cabin.overrides m = some o ∧ o.enable = true ∧ o.index = i := by
  simp only [State.actingIn, Option.map_eq_some_iff, Option.filter_eq_some_iff, Bool.and_eq_true, beq_iff_eq,
    Prod.mk.injEq]
  constructor
  · rintro ⟨x, ⟨hx, hacts⟩, rfl, rfl⟩
    exact ⟨rfl, hx, hacts⟩
  · rintro ⟨rfl, ho, hacts⟩
    exact ⟨o, ⟨ho, hacts⟩, rfl, rfl⟩

theorem actingIn_eq_none {s : State} {i : Nat} {n : Fin 8} :
    s.actingIn i n = none ↔ ∀ x ∈ cell s.cabin.overrides n, x.enable = true → x.index ≠ i := by
  simp [State.actingIn, Option.filter_eq_none_iff]

/-- The search of the slots in rising order stops at the lowest enabled slot that names the cabin. -/
theorem activeOverride_eq_some {s : State} {i : Nat} {m : Fin 8} {o : Override} :
    s.activeOverride i = some (m, o) ↔
      cell s.cabin.overrides m = some o ∧ o.enable = true ∧ o.index = i
        ∧ ∀ j : Fin 8, j < m → ∀ x ∈ cell s.cabin.overrides j, x.enable = true → x.index ≠ i := by
  rw [activeOverride_eq, ← Fin.findSome?_eq_findSome?_finRange, Fin.findSome?_eq_some_iff]
  simp only [actingIn_eq_some, actingIn_eq_none, and_assoc]
  constructor
  · rintro ⟨n, rfl, h⟩
    exact h
  · exact fun h => ⟨m, rfl, h⟩

/-- Another enabled slot than `n` holds the code. -/
abbrev State.CodeHeldElsewhere (s : State) (n : Fin 8) (code : CabinCode) : Prop :=
  ∃ m : Fin 8, m ≠ n ∧ ∃ o, cell s.cabin.overrides m = some o ∧ o.enable = true ∧ o.code = code

/-- No other enabled slot holds the code, as SET_OVERRIDE tests it (R63). -/
theorem codeFree_iff {s : State} {n : Fin 8} {code : CabinCode} :
    (List.finRange 8).all (fun m =>
        m == n || !((cell s.cabin.overrides m).any (fun o => o.enable && o.code == code))) = true
      ↔ ¬ s.CodeHeldElsewhere n code := by
  simp [State.CodeHeldElsewhere, List.all_eq_true, Option.any_eq_false, or_iff_not_imp_left]

end Sys2Proof.Machine
end

section
/-! SET_CABIN (R61). -/

namespace Sys2Proof.Machine

/-! ### The values of the fields, and the tests -/

/-- What a SET_CABIN changes of a cabin record; `none` leaves a field as it is. -/
structure CabinChange where
  outOfOrder : Option Bool
  privacy    : Option Bool
  window     : Option (Option Window)

/-- The minutes of a window are minutes of a day. -/
abbrev Window.Valid (w : Window) : Prop := w.start ≤ 1439 ∧ w.stop ≤ 1439

/-- The change that fields of known values and minutes in range ask for (R61). -/
def SetCabinFields.change (a : SetCabinFields) : Option CabinChange := do
  let out ← a.outOfOrder
  let privacy ← a.privacy
  let window ← a.window.both
  if ∀ w ∈ window.join, w.Valid then some ⟨out, privacy, window⟩ else none

/-- The record that SET_CABIN writes. -/
def CabinChange.apply (x : CabinChange) (c : Cabin) : Cabin :=
  { c with
    outOfOrder := x.outOfOrder.getD c.outOfOrder, privacy := x.privacy.getD c.privacy
    window := x.window.getD c.window }

theorem need_ite {α : Type} (p : Prop) [Decidable p] (a : α) (r : Result) :
    need (if p then some a else none) r = check p r >>= fun _ => .ok a := by
  by_cases h : p <;> simp [h, check_of, check_not]

theorem setCabin_change (p : List Byte) (s : State) : setCabin p s
    = need (readSetCabin p).change .range >>= fun x =>
      need (s.store.cabinIndex (readSetCabin p).code) .badCabin >>= fun i =>
      .ok (s.putCabin i (x.apply (s.cabinAt i)), e16 i ++ eCabin s.draws (x.apply (s.cabinAt i))) := by
  simp only [setCabin, SetCabinFields.change, need_bind, need_ite, bind_assoc, ok_bind]
  rfl

section Tests

variable {s : State} {p : List Byte} {a : SetCabinFields} {x : CabinChange} {i : Nat} (ha : readSetCabin p = a)

include ha

theorem setCabin_range (h : a.change = none) : setCabin p s = .error (.range, []) := by
  rw [setCabin_change, ha, h, need_none, error_bind]

variable (h : a.change = some x)

include h

theorem setCabin_badCabin (hi : s.store.cabinIndex a.code = none) : setCabin p s = .error (.badCabin, []) := by
  rw [setCabin_change, ha, h, need_some, ok_bind, hi, need_none, error_bind]

theorem setCabin_ok (hi : s.store.cabinIndex a.code = some i) : setCabin p s
    = .ok (s.putCabin i (x.apply (s.cabinAt i)), e16 i ++ eCabin s.draws (x.apply (s.cabinAt i))) := by
  rw [setCabin_change, ha, h, need_some, ok_bind, hi, need_some, ok_bind]

end Tests

/-! ### The frame -/

/-- The payload of a SET_CABIN by its fields, the enumerations and the marker as numbers. -/
abbrev setCabinPayload (code : CabinCode) (out privacy marker start stop : Nat) : List Byte :=
  eCode code ++ e8 out ++ e8 privacy ++ e8 marker ++ e16 start ++ e16 stop

theorem readSetCabin_encoded (code : CabinCode) (out privacy marker start stop : Nat) :
    readSetCabin (setCabinPayload code out privacy marker start stop)
      = ⟨code, outOfOrderSettings[out % 256]?, privacySettings[privacy % 256]?,
        .ofMarker (marker % 256) ⟨start % 65536, stop % 65536⟩⟩ := by
  simp [readSetCabin, settingAt_ofMarker, List.append_assoc]

/-- The values of R61 for the bytes of a frame. -/
abbrev SetCabinKnown (out privacy marker start stop : Nat) : Prop :=
  out ≤ 2 ∧ privacy ≤ 1 ∧ marker ≤ 2 ∧ (marker = 1 → start ≤ 1439 ∧ stop ≤ 1439)

section Frame

variable {code : CabinCode} {out privacy marker start stop : Nat}

theorem readSetCabin_bounded (ho : out < 256) (hp : privacy < 256) (hm : marker < 256) (hs : start < 65536)
    (ht : stop < 65536) : readSetCabin (setCabinPayload code out privacy marker start stop)
      = ⟨code, outOfOrderSettings[out]?, privacySettings[privacy]?, .ofMarker marker ⟨start, stop⟩⟩ := by
  rw [readSetCabin_encoded]
  simp only [Nat.mod_eq_of_lt, ho, hp, hm, hs, ht]

/-- The window that a marker leaves or gives has minutes in range. -/
theorem remadeBy_valid : (∀ w ∈ (remadeBy marker (⟨start, stop⟩ : Window)).join, w.Valid)
    ↔ (marker = 1 → start ≤ 1439 ∧ stop ≤ 1439) := by
  unfold remadeBy
  split_ifs with h2 h1
  · simp [h2]
  · simp [h1]
  · simp [h1]

theorem cabinChange_known : (∃ x, SetCabinFields.change ⟨code, outOfOrderSettings[out]?, privacySettings[privacy]?,
      .ofMarker marker ⟨start, stop⟩⟩ = some x) ↔ SetCabinKnown out privacy marker start stop := by
  simp only [SetCabinFields.change, Option.bind_eq_bind, Option.bind_eq_some_iff, Option.ite_none_right_eq_some,
    Option.some.injEq]
  constructor
  · rintro ⟨x, o, ho, p, hp, w, hw, hvalid, -⟩
    obtain ⟨ho, -⟩ := List.getElem?_eq_some_iff.1 ho
    obtain ⟨hp, -⟩ := List.getElem?_eq_some_iff.1 hp
    obtain ⟨hm, rfl⟩ := known_of_both hw
    exact ⟨Nat.le_of_lt_succ ho, Nat.le_of_lt_succ hp, hm, remadeBy_valid.1 hvalid⟩
  · rintro ⟨ho, hp, hm, hvalid⟩
    obtain ⟨o, ho⟩ := some_of_getElem? (values := outOfOrderSettings) (Nat.lt_succ_of_le ho)
    obtain ⟨p, hp⟩ := some_of_getElem? (values := privacySettings) (Nat.lt_succ_of_le hp)
    exact ⟨_, o, ho, p, hp, _, both_of_known hm, remadeBy_valid.2 hvalid, rfl⟩

end Frame

/-! ### A frame of given settings -/

section Given

variable {code : CabinCode} {out privacy : Option Bool} {window : Option (Option Window)} {junk : Nat}

theorem getElem?_outOfOrderSettings (v : Option Bool) :
    outOfOrderSettings[enumPlace outOfOrderSettings v % 256]? = some v :=
  getElem?_enumPlace (by revert v; decide) (by decide)

theorem getElem?_privacySettings {v : Option Bool} (h : v ≠ some true) :
    privacySettings[enumPlace privacySettings v % 256]? = some v :=
  getElem?_enumPlace (by revert v; decide) (by decide)

/-- The two minutes that four bytes hold. -/
def Window.ofNat (n : Nat) : Window := ⟨n / 65536, n % 65536⟩

theorem setCabinPayload_given (code : CabinCode) (out privacy : Option Bool) (window : Option (Option Window))
    (junk : Nat) : eCode code ++ eEnum [none, some true, some false] out ++ eEnum [none, some false] privacy
      ++ givenBoth (e32 junk) (fun w : Window => e16 w.start ++ e16 w.stop) window
    = setCabinPayload code (enumPlace outOfOrderSettings out) (enumPlace privacySettings privacy) (bothMarker window)
      (window.join.getD (.ofNat junk)).start (window.join.getD (.ofNat junk)).stop := by
  have hwindow := givenBoth_eq (fun w : Window => e16 w.start ++ e16 w.stop) (.ofNat junk) window
  have hjunk : e16 (Window.ofNat junk).start ++ e16 (Window.ofNat junk).stop = e32 junk := rfl
  rw [hjunk] at hwindow
  rw [hwindow]
  simp only [setCabinPayload, List.append_assoc]
  rfl

theorem readSetCabin_given (hp : privacy ≠ some true) (hw : ∀ w ∈ window.join, w.Valid) :
    ∃ a, readSetCabin (setCabinPayload code (enumPlace outOfOrderSettings out) (enumPlace privacySettings privacy)
        (bothMarker window) (window.join.getD (.ofNat junk)).start (window.join.getD (.ofNat junk)).stop) = a
      ∧ a.code = code ∧ a.change = some ⟨out, privacy, window⟩ := by
  refine ⟨_, readSetCabin_encoded _ _ _ _ _ _, rfl, ?_⟩
  have hwindow := both_given window (v := ⟨(window.join.getD (.ofNat junk)).start % 65536,
      (window.join.getD (.ofNat junk)).stop % 65536⟩) fun w hmem => by
    obtain ⟨hstart, hstop⟩ := hw w hmem
    rw [Option.mem_def.1 hmem, Option.getD_some, Nat.mod_eq_of_lt (by omega), Nat.mod_eq_of_lt (by omega)]
  simp only [SetCabinFields.change, getElem?_outOfOrderSettings, getElem?_privacySettings hp, hwindow]
  exact if_pos hw

end Given

/-- The record as SET_CABIN sends it (R61, R73). -/
theorem eCabin_eq (draws : Nat) (c : Cabin) : eCabin draws c
    = e16 c.occupants.length ++ c.occupants.flatMap e16 ++ e8 (if c.privacy then 0 else 1)
      ++ e8 (if c.outOfOrder then 0 else 1)
      ++ eOpt draws 4 (fun w : Window => e16 w.start ++ e16 w.stop) c.window := rfl

end Sys2Proof.Machine
end

section
/-! SET_OVERRIDE and CLEAR_OVERRIDE (R63, R64); with them the statement about the commands of the cabin unit. -/

namespace Sys2Proof.Machine

/-! ### The values of the fields, and the tests -/

/-- The values of the fields of a SET_OVERRIDE that are all known and in range. -/
structure OverrideValues where
  slot   : Fin 8
  action : OverrideAction
  enable : Bool

def SetOverrideFields.values (a : SetOverrideFields) : Option OverrideValues := do
  let slot ← asFin 8 a.slot
  let kind ← a.kind
  let enable ← a.enable
  let action ← overrideAction kind a.serial
  return ⟨slot, action, enable⟩

/-- SET_OVERRIDE on values that are known and in range. -/
def State.setOverrideWith (s : State) (code : CabinCode) (v : OverrideValues) : Verdict (State × List Byte) := do
  let i ← need (s.store.cabinIndex code) .badCabin
  check (v.enable = true → (List.finRange 8).all (fun m =>
    m == v.slot || !((cell s.cabin.overrides m).any (fun o => o.enable && o.code == code))) = true) .duplicate
  return (s.putOverride v.slot (some ⟨code, i, v.action, v.enable⟩), e16 i)

theorem setOverride_values (p : List Byte) (s : State) : setOverride p s
    = need (readSetOverride p).values .range >>= s.setOverrideWith (readSetOverride p).code := by
  simp only [setOverride, SetOverrideFields.values, need_bind, bind_assoc]
  rfl

section Tests

variable {s : State} {p : List Byte} {a : SetOverrideFields} {v : OverrideValues} {code : CabinCode} {i : Nat}

theorem setOverride_range (ha : readSetOverride p = a) (h : a.values = none) :
    setOverride p s = .error (.range, []) := by
  rw [setOverride_values, ha, h, need_none, error_bind]

theorem setOverride_of_values (ha : readSetOverride p = a) (h : a.values = some v) :
    setOverride p s = s.setOverrideWith a.code v := by
  rw [setOverride_values, ha, h, need_some, ok_bind]

theorem setOverrideWith_badCabin (hi : s.store.cabinIndex code = none) :
    s.setOverrideWith code v = .error (.badCabin, []) := by
  rw [State.setOverrideWith, hi, need_none, error_bind]

variable (hi : s.store.cabinIndex code = some i)

include hi

theorem setOverrideWith_duplicate (he : v.enable = true) (hclash : s.CodeHeldElsewhere v.slot code) :
    s.setOverrideWith code v = .error (.duplicate, []) := by
  rw [State.setOverrideWith, hi, need_some, ok_bind, check_not fun h => codeFree_iff.1 (h he) hclash, error_bind]

theorem setOverrideWith_ok (h : v.enable = false ∨ ¬ s.CodeHeldElsewhere v.slot code) :
    s.setOverrideWith code v
      = .ok (s.putOverride v.slot (some ⟨code, i, v.action, v.enable⟩), e16 i) := by
  have hfree : v.enable = true → ¬ s.CodeHeldElsewhere v.slot code := fun he => h.resolve_left (by simp [he])
  rw [State.setOverrideWith, hi, need_some, ok_bind, check_of fun he => codeFree_iff.2 (hfree he)]
  rfl

end Tests

/-! ### The frame -/

/-- The payload of a SET_OVERRIDE by its fields, the action's kind and the enable as numbers. -/
abbrev setOverridePayload (slot : Nat) (code : CabinCode) (kind serial enable : Nat) : List Byte :=
  e8 slot ++ eCode code ++ e8 kind ++ e32 serial ++ e8 enable

theorem readSetOverride_bounded {slot kind serial enable : Nat} (code : CabinCode) (hn : slot < 256) (hk : kind < 256)
    (hs : serial < 4294967296) (he : enable < 256) : readSetOverride (setOverridePayload slot code kind serial enable)
      = ⟨slot, code, overrideKinds[kind]?, serial, setOrClear[enable]?⟩ := by
  simp [readSetOverride, List.append_assoc, Nat.mod_eq_of_lt, *]

/-- The action of a kind byte and a serial is known exactly when the serial suits it (R62, R63). -/
theorem overrideAction_known {kind serial : Nat} :
    (∃ k, overrideKinds[kind]? = some k ∧ ∃ x, overrideAction k serial = some x)
      ↔ kind ≤ 2 ∧ (kind = 2 → serial ≠ 0) := by
  match kind with
  | 0 | 1 => simp [overrideKinds, overrideAction]
  | 2 => simp [overrideKinds, overrideAction]
  | k + 3 => simp [overrideKinds]

theorem overrideValues_known {slot kind serial enable : Nat} {code : CabinCode} :
    (∃ v, SetOverrideFields.values ⟨slot, code, overrideKinds[kind]?, serial, setOrClear[enable]?⟩ = some v)
      ↔ slot ≤ 7 ∧ kind ≤ 2 ∧ enable ≤ 1 ∧ (kind = 2 → serial ≠ 0) := by
  simp only [SetOverrideFields.values, Option.bind_eq_bind, Option.bind_eq_some_iff]
  constructor
  · rintro ⟨v, n, hn, k, hk, e, he, x, hx, -⟩
    obtain ⟨hkind, hserial⟩ := overrideAction_known.1 ⟨k, hk, x, hx⟩
    obtain ⟨he, -⟩ := List.getElem?_eq_some_iff.1 he
    exact ⟨Nat.le_of_lt_succ (asFin_eq_some hn), hkind, Nat.le_of_lt_succ he, hserial⟩
  · rintro ⟨hn, hkind, he, hserial⟩
    obtain ⟨k, hk, x, hx⟩ := overrideAction_known.2 ⟨hkind, hserial⟩
    obtain ⟨e, he⟩ := some_of_getElem? (values := setOrClear) (Nat.lt_succ_of_le he)
    exact ⟨_, _, asFin_of_lt (Nat.lt_succ_of_le hn), k, hk, e, he, x, hx, rfl⟩

/-- The kind byte of an action. -/
def OverrideAction.place (x : OverrideAction) : Nat :=
  match x with
  | .denyAll => 0
  | .serviceOnly => 1
  | .admitOne _ => 2

/-- A frame that carries an action, its serial and an enable reads as them. -/
theorem overrideValues_of_action {n : Fin 8} {code : CabinCode} {serial : Nat} {action : OverrideAction}
    {enable : Bool} (hserial : ∀ x, action = .admitOne x → x = serial ∧ 1 ≤ serial) :
    SetOverrideFields.values ⟨n.val, code, overrideKinds[action.place]?, serial,
      setOrClear[if enable then 0 else 1]?⟩ = some ⟨n, action, enable⟩ := by
  have henable : setOrClear[if enable then 0 else 1]? = some enable := by cases enable <;> rfl
  have haction : ∃ k, overrideKinds[action.place]? = some k ∧ overrideAction k serial = some action := by
    cases action with
    | denyAll => exact ⟨.denyAll, rfl, rfl⟩
    | serviceOnly => exact ⟨.serviceOnly, rfl, rfl⟩
    | admitOne x =>
      obtain ⟨rfl, hpos⟩ := hserial x rfl
      exact ⟨.admitOne, rfl, if_neg (by omega)⟩
  obtain ⟨k, hk, hx⟩ := haction
  simp only [SetOverrideFields.values, asFin_val, hk, henable]
  exact congrArg (Option.bind · _) hx

/-! ### CLEAR_OVERRIDE -/

theorem clearOverride_range {p : List Byte} {s : State} (h : 8 ≤ u8 p 0) : clearOverride p s = .error (.range, []) := by
  rw [clearOverride, asFin_none h, need_none, error_bind]

theorem clearOverride_ok {p : List Byte} {s : State} {n : Fin 8} (h : u8 p 0 = n.val) :
    clearOverride p s = .ok (s.putOverride n none, []) := by
  rw [clearOverride, h, asFin_val, need_some, ok_bind]
  rfl

/-! ### The commands of the cabin unit -/

theorem cabinIndex_eq_none {st : Store} {code : CabinCode} (h : st.decode code = none) : st.cabinIndex code = none := by
  rw [Store.cabinIndex, h, Option.map_none]

/-- Settles O26: the window and the acting override as lookups say them, then each command test by test. -/
theorem cabinCommands : Obligations.CabinCommands := by
  refine ⟨insideWindow_some, fun m => rfl, fun s i m o => activeOverride_eq_some, fun s tag h0 hrec => ?_⟩
  have hadmit := record_admitted hrec
  refine ⟨?_, ?_, ?_, ?_, ?_, ?_⟩
  · intro code i junk out privacy window hi hp hw f c
    obtain ⟨a, ha, rfl, hchange⟩ := readSetCabin_given (code := code) (out := out) (junk := junk) hp hw
    refine next_done (c := cmdSetCabin) h0 (by decide) (by rw [setCabinPayload_given]; rfl) hadmit ?_
    rw [setCabinPayload_given, setCabin_ok ha hchange hi, eCabin_eq]
    simp only [List.append_assoc]
    rfl
  · intro code out privacy marker start stop ho hp hm hs ht f valid
    have hread := readSetCabin_bounded (code := code) ho hp hm hs ht
    have refused : ∀ r, setCabin (setCabinPayload code out privacy marker start stop) s = .error (r, []) →
        exec (.setCabin f) s = .next (s.answered 0x40 f r []) := fun r hr =>
      next_refused (c := cmdSetCabin) h0 (by decide) rfl hadmit hr
    refine ⟨fun hv => refused _ (setCabin_range hread ?_), fun hv hbad => ?_⟩
    · exact Option.eq_none_iff_forall_ne_some.2 fun x hx => hv (cabinChange_known.1 ⟨x, hx⟩)
    · obtain ⟨x, hx⟩ := cabinChange_known.2 hv
      exact refused _ (setCabin_badCabin hread hx (cabinIndex_eq_none hbad))
  · intro slot kind serial enable code hn hk hs he f valid
    have hread := readSetOverride_bounded code hn hk hs he
    have refused : ∀ r, setOverride (setOverridePayload slot code kind serial enable) s = .error (r, []) →
        exec (.setOverride f) s = .next (s.answered 0x41 f r []) := fun r hr =>
      next_refused (c := cmdSetOverride) h0 (by decide) rfl hadmit hr
    refine ⟨fun hv => refused _ (setOverride_range hread ?_), fun hv hbad => ?_⟩
    · exact Option.eq_none_iff_forall_ne_some.2 fun v hx => hv (overrideValues_known.1 ⟨v, hx⟩)
    · obtain ⟨v, hx⟩ := overrideValues_known.2 hv
      exact refused _ ((setOverride_of_values hread hx).trans (setOverrideWith_badCabin (cabinIndex_eq_none hbad)))
  · intro slot h7 h256 f
    exact next_refused (c := cmdClearOverride) h0 (by decide) rfl hadmit
      (clearOverride_range (by rw [u8_e8_nil, Nat.mod_eq_of_lt h256]; exact h7))
  · intro n code i serial action enable hi hs hserial kind f clash
    have hplace : action.place < 256 := by unfold OverrideAction.place; split <;> decide
    have hread := readSetOverride_bounded (slot := n.val) (enable := if enable then 0 else 1) code (by omega) hplace hs
      (by split <;> decide)
    have hbody := setOverride_of_values (s := s) hread (overrideValues_of_action hserial)
    refine ⟨fun hfree => ?_, fun he hclash => ?_⟩
    · exact next_done (c := cmdSetOverride) h0 (by decide) rfl hadmit
        (hbody.trans (setOverrideWith_ok (v := ⟨n, action, enable⟩) hi hfree))
    · exact next_refused (c := cmdSetOverride) h0 (by decide) rfl hadmit
        (hbody.trans (setOverrideWith_duplicate (v := ⟨n, action, enable⟩) hi he hclash))
  · intro n f
    exact next_done (c := cmdClearOverride) h0 (by decide) rfl hadmit
      (clearOverride_ok (by rw [u8_e8_nil, Nat.mod_eq_of_lt (by omega)]))

end Sys2Proof.Machine
end

section
/-! The tests of a hold tag, the end of one ACTIVE hold, and the decisions of COMPLETE and VOID (R101, R102, R106 to
R108). -/

namespace Sys2Proof.Machine

/-! ### The tag of a request -/

theorem tagAt_encoded {slot : Nat} (hs : slot < 256) (generation : BitVec 8) (p : List Byte) :
    tagAt (e8 slot ++ e8 generation.toNat ++ p) 0 = ⟨slot, generation⟩ := by
  show (⟨slot % 256, BitVec.ofNat 8 generation.toNat⟩ : Tag) = _
  simp [Nat.mod_eq_of_lt hs]

theorem readComplete_encoded {slot amount currency : Nat} (hs : slot < 256) (generation : BitVec 8)
    (ha : amount < 4294967296) (hc : currency < 256) :
    readComplete (e8 slot ++ e8 generation.toNat ++ e32 amount ++ e8 currency)
      = ⟨⟨slot, generation⟩, amount, currency⟩ := by
  have htag := tagAt_encoded hs generation (e32 amount ++ e8 currency)
  simp only [List.append_assoc] at htag
  have hcurrency := u8_after_e32 amount (e8 currency) 0
  simp_all [readComplete, List.append_assoc, Nat.mod_eq_of_lt]

/-! ### The classification of a tag -/

section TagTests

variable {s : State} {n : Fin 4} {r : Request} {tag : Tag} (hs : s.Serves)

include hs

theorem tagTests_denyPost (hp : ∀ o : Fin 64, ¬ s.HasPost n r.terminal (.till o)) :
    tagTests n r tag s = .error (.denyPost, []) := by
  simp only [tagTests, test_of hs.serving, State.tillAt_eq_none hp, ok_bind, demand_none, error_bind]

variable {o : Fin 64} (hp : s.HasPost n r.terminal (.till o))

include hp

/-- A slot whose record is of another outlet is told nothing more of (test 2 of R106). -/
theorem tagTests_otherOutlet (h : ¬ (s.holdAt tag.slot).outletAgrees o = true) :
    tagTests n r tag s = .error (.denyPost, []) := by
  simp only [tagTests, test_of hs.serving, State.tillAt_eq_some.2 hp, ok_bind, demand_some, test_not h, error_bind]

/-- At the slot's own outlet the tests turn on the classification of R101. -/
theorem tagTests_classify (h : (s.holdAt tag.slot).outletAgrees o = true) :
    tagTests n r tag s = (s.holdAt tag.slot).classify tag.generation := by
  simp only [tagTests, test_of hs.serving, State.tillAt_eq_some.2 hp, ok_bind, demand_some, test_of h]

theorem tagTests_free (h : (s.holdAt tag.slot).status = .free) : tagTests n r tag s = .error (.unknownHold, []) := by
  rw [tagTests_classify hs hp (by rw [HoldSlot.outletAgrees, h]), HoldSlot.classify, h]

variable {h : Hold} {x : BitVec 8}

theorem tagTests_active (hslot : s.holdAt tag.slot = ⟨.active h, tag.generation⟩) (ho : h.outlet = o) :
    tagTests n r tag s = .ok h := by
  rw [tagTests_classify hs hp (by simp [HoldSlot.outletAgrees, hslot, ho])]
  simp [HoldSlot.classify, hslot]

theorem tagTests_lapsed (hslot : s.holdAt tag.slot = ⟨.lapsed h, tag.generation⟩) (ho : h.outlet = o) :
    tagTests n r tag s = .error (.holdLapsed, []) := by
  rw [tagTests_classify hs hp (by simp [HoldSlot.outletAgrees, hslot, ho])]
  simp [HoldSlot.classify, hslot]

variable (hslot : s.holdAt tag.slot = ⟨.active h, x⟩ ∨ s.holdAt tag.slot = ⟨.lapsed h, x⟩)

include hslot

theorem tagTests_ofOtherOutlet (ho : h.outlet ≠ o) : tagTests n r tag s = .error (.denyPost, []) := by
  refine tagTests_otherOutlet hs hp ?_
  rcases hslot with hslot | hslot <;> simp [HoldSlot.outletAgrees, hslot, ho]

theorem tagTests_otherGeneration (ho : h.outlet = o) (hx : x ≠ tag.generation) :
    tagTests n r tag s = .error (.unknownHold, []) := by
  rcases hslot with hslot | hslot
  all_goals
    rw [tagTests_classify hs hp (by simp [HoldSlot.outletAgrees, hslot, ho])]
    simp [HoldSlot.classify, hslot, hx]

end TagTests

/-! ### The decisions of COMPLETE and VOID -/

section Decide

variable {s : State} {n : Fin 4} {r : Request}

theorem decideComplete_refused {x : Reason} {data : List Byte} (h : completeTests n r s = .error (x, data)) :
    decideComplete n r s = ⟨s, x, data⟩ := by
  simp only [decideComplete, h, error_bind, decided]

theorem decideVoid_refused {x : Reason} {data : List Byte} (h : tagTests n r (tagAt r.payload 0) s = .error (x, data)) :
    decideVoid n r s = ⟨s, x, data⟩ := by
  simp only [decideVoid, h, error_bind, decided]

theorem decideVoid_voided {h : Hold} (ht : tagTests n r (tagAt r.payload 0) s = .ok h) :
    decideVoid n r s = ⟨s.endHold (tagAt r.payload 0).slot h, .voided, e32 h.amount⟩ := by
  simp only [decideVoid, ht]
  rfl

variable {a : CompleteFields} (ha : readComplete r.payload = a)

include ha

theorem completeTests_refused {x : Reason} {data : List Byte} (h : tagTests n r a.tag s = .error (x, data)) :
    completeTests n r s = .error (x, data) := by
  simp only [completeTests, ha, h, error_bind]

variable {h : Hold} (ht : tagTests n r a.tag s = .ok h)

include ht

theorem completeTests_badAmount (hc : s.computeCharge a.amount a.currency (s.outletAt h.outlet.val) = none) :
    completeTests n r s = .error (.badAmount, []) := by
  simp only [completeTests, ha, ht, ok_bind, hc, demand_none, error_bind]

variable {c : Charge} (hc : s.computeCharge a.amount a.currency (s.outletAt h.outlet.val) = some c)

include hc

theorem completeTests_overHold (hover : h.amount < c.total) :
    completeTests n r s = .error (.overHold, e32 c.total ++ e32 h.amount) := by
  simp only [completeTests, ha, ht, ok_bind, hc, demand_some, if_pos hover]

theorem decideComplete_approved (hfits : c.total ≤ h.amount) : decideComplete n r s
    = ⟨(s.endHold a.tag.slot h).postTotal h.folio h.guest c.total, .approved,
        e32 c.total ++ e32 c.converted ++ e32 c.gratuity⟩ := by
  have htests : completeTests n r s = .ok (h, c) := by
    simp only [completeTests, ha, ht, ok_bind, hc, demand_some, if_neg (Nat.not_lt.2 hfits)]
    rfl
  simp only [decideComplete, htests, ha]
  rfl

end Decide

/-! ### What the end of a hold leaves -/

/-- A second write at an index leaves nothing of the first, in any list. -/
theorem Table.put_overwrites {α : Type} (t : Table α) (k : Nat) (a b : α) :
    Table.put (Table.put t k a) k b = Table.put t k b := by
  induction t with
  | nil => simp [Table.put]
  | cons e t ih =>
    obtain ⟨i, x⟩ := e
    rcases Nat.lt_trichotomy k i with hlt | rfl | hgt
    · simp [Table.put, hlt]
    · simp [Table.put]
    · have hne : k ≠ i := by omega
      have hnot : ¬ k < i := by omega
      simp [Table.put, hne, hnot, ih]

namespace State

variable {s : State} {k : Nat} {h : Hold} {x : Folio} {g : Guest} (hx : s.folioAt h.folio = some x)
  (hg : s.guestAt h.guest = some g)

include hx hg

theorem endHold_eq : s.endHold k h = { s with
    hold := { s.hold with slots := Table.putD s.hold.slots k ⟨.free, (s.holdAt k).generation⟩ ⟨.free, 0⟩ }
    folio := { s.folio with
      folios := Table.put s.folio.folios h.folio { x with held := x.held - h.amount, holds := x.holds.erase k } }
    roster := { s.roster with guests := Table.put s.roster.guests h.guest { g with held := g.held - h.amount } } } := by
  have hg' : (s.putFolio h.folio { x with held := x.held - h.amount, holds := x.holds.erase k }).guestAt h.guest
      = some g := hg
  simp only [endHold, releaseHeld, hx, hg']
  rfl

/-- The posting of R92 that follows the end of a hold falls on the folio and the guest of that hold. -/
theorem endHold_postTotal_eq (total : Nat) : (s.endHold k h).postTotal h.folio h.guest total = { s with
    hold := { s.hold with slots := Table.putD s.hold.slots k ⟨.free, (s.holdAt k).generation⟩ ⟨.free, 0⟩ }
    folio := { s.folio with
      folios := Table.put s.folio.folios h.folio
        { x with held := x.held - h.amount, holds := x.holds.erase k, balance := x.balance + total } }
    roster := { s.roster with
      guests := Table.put s.roster.guests h.guest
        (Guest.spend { g with held := g.held - h.amount } s.clock.day total) } } := by
  have hfolio : (s.endHold k h).folioAt h.folio
      = some { x with held := x.held - h.amount, holds := x.holds.erase k } := by
    rw [endHold_eq hx hg]
    exact Table.find_put_self _ _ _
  have hguest : (s.endHold k h).guestAt h.guest = some { g with held := g.held - h.amount } := by
    rw [endHold_eq hx hg]
    exact Table.find_put_self _ _ _
  rw [postTotal_eq hfolio hguest, endHold_eq hx hg]
  simp only [Table.put_overwrites]

end State

/-- Settles O37: the tag's tests in order, then the end of the hold and, of a COMPLETE, the posting. -/
theorem completionsAndVoids : Obligations.CompletionsAndVoids := by
  intro s n r rest slot generation amount currency hheads hserves hslot hamount hcurrency tag complete void freed ended
    refused
  have hread : complete → readComplete r.payload = ⟨⟨slot, generation⟩, amount, currency⟩ := fun hc => by
    rw [hc.2, readComplete_encoded hslot generation hamount hcurrency]
  have htag : void → tagAt r.payload 0 = ⟨slot, generation⟩ := fun hv => by
    rw [hv.2]
    simpa using tagAt_encoded hslot generation []
  have stop : ∀ x, tagTests n r ⟨slot, generation⟩ s = .error (x, []) → refused x := fun x hx =>
    ⟨fun hc => next_take (k := .complete) hheads hc.1 (decideComplete_refused (completeTests_refused (hread hc) hx)),
      fun hv => next_take (k := .void) hheads hv.1 (decideVoid_refused (by rw [htag hv, hx]))⟩
  refine ⟨fun hp => stop _ (tagTests_denyPost hserves hp), fun o hp => ⟨?_, fun h x hat =>
    ⟨fun ho => stop _ (tagTests_ofOtherOutlet hserves hp hat ho),
      fun ho hx => stop _ (tagTests_otherGeneration hserves hp hat ho hx)⟩,
    fun hfree => stop _ (tagTests_free hserves hp hfree),
    fun h hat ho => stop _ (tagTests_lapsed hserves hp hat ho)⟩⟩
  rintro h x g hat rfl hx hg y spent
  have hok := tagTests_active (tag := ⟨slot, generation⟩) hserves hp hat rfl
  have hgeneration : (s.holdAt slot).generation = generation := by rw [hat]
  refine ⟨fun hc => ⟨fun c hcharge => ⟨fun hfits => ?_, fun hover => ?_⟩, fun hnone => ?_⟩, fun hv => ?_⟩
  · refine next_take (k := .complete) hheads hc.1
      ((decideComplete_approved (hread hc) hok hcharge hfits).trans ?_)
    rw [State.endHold_postTotal_eq hx hg, hgeneration]
    rfl
  · exact next_take (k := .complete) hheads hc.1
      (decideComplete_refused (completeTests_overHold (hread hc) hok hcharge hover))
  · exact next_take (k := .complete) hheads hc.1
      (decideComplete_refused (completeTests_badAmount (hread hc) hok hnone))
  · refine next_take (k := .void) hheads hv.1 ((decideVoid_voided (by rw [htag hv]; exact hok)).trans ?_)
    rw [htag hv, State.endHold_eq hx hg, hgeneration]

end Sys2Proof.Machine
end

section
/-! RELEASE_FOLIO_HOLDS: the end of every hold of a hold list, and the sums it lowers (R102, R110). -/

namespace Sys2Proof.Machine

/-! ### The amounts that a test picks -/

/-- What a slot adds to the sum of the ACTIVE holds that a test picks. -/
def HoldSlot.amountIf (e : HoldSlot) (p : Hold → Bool) : Nat :=
  match e.activeHold with
  | none => 0
  | some h => if p h then h.amount else 0

namespace HoldSlot

variable {e : HoldSlot} {h : Hold} {p : Hold → Bool}

theorem amountIf_none (he : e.activeHold = none) : e.amountIf p = 0 := by rw [amountIf, he]

theorem amountIf_some (he : e.activeHold = some h) : e.amountIf p = if p h then h.amount else 0 := by
  rw [amountIf, he]

theorem status_of_activeHold (he : e.activeHold = some h) : e.status = .active h := by
  unfold activeHold at he
  split at he <;> simp_all

theorem amount_of_activeHold (he : e.activeHold = some h) : e.amount = h.amount := by
  rw [amount, status_of_activeHold he]

end HoldSlot

namespace State

/-- The amounts that a test picks from the ACTIVE holds of the slots of a list. -/
def sumOver (s : State) (l : List Nat) (p : Hold → Bool) : Nat := (l.map (fun k => (s.holdAt k).amountIf p)).sum

variable {s : State}

theorem sumHolds_eq (s : State) (p : Hold → Bool) :
    s.sumHolds p = (s.hold.slots.map (fun e => e.2.amountIf p)).sum := by
  unfold sumHolds
  induction s.hold.slots with
  | nil => rfl
  | cons e slots ih =>
    cases he : e.2.activeHold with
    | none => simp [he, HoldSlot.amountIf_none he, ih]
    | some h => cases hp : p h <;> simp [he, HoldSlot.amountIf_some he, hp, ih]

/-- The sum over the whole pool is the sum over the slots that the table lists. -/
theorem sumHolds_eq_sumOver (hw : Table.wf s.hold.slots) (p : Hold → Bool) :
    s.sumHolds p = s.sumOver (s.hold.slots.map Prod.fst) p := by
  rw [sumHolds_eq, sumOver, List.map_map]
  refine congrArg List.sum (List.map_congr_left fun e he => ?_)
  have hfind : s.hold.slots.find e.1 = some e.2 := (Table.mem_iff_find hw e.1 e.2).1 he
  simp [holdAt, Table.findD, hfind]

theorem mem_slots_of_activeHold {k : Nat} {h : Hold} (hk : (s.holdAt k).activeHold = some h) :
    (k, s.holdAt k) ∈ s.hold.slots := by
  have hlisted : s.holdAt k ≠ HoldSlot.cold := fun he => by
    rw [he] at hk
    cases hk
  exact Table.find_mem (Table.find_of_findD_ne hlisted)

/-- Where only holds of one folio are picked, the sum over the pool is the sum over that folio's hold list. -/
theorem sumHolds_eq_sumOver_holds (hs : s.HoldsSound) {a : Nat} {x : Folio} (hx : s.folioAt a = some x)
    {p : Hold → Bool} (hp : ∀ h, p h = true → h.folio = a) : s.sumHolds p = s.sumOver x.holds p := by
  obtain ⟨⟨-, -, -, -, -, hw, -⟩, -, -, hactive, hfolios, -⟩ := hs
  obtain ⟨-, hnodup, -, hlisted, -⟩ := hfolios (a, x) (Table.find_mem hx)
  have hkeys : (s.hold.slots.map Prod.fst).Nodup := hw.imp Nat.ne_of_lt
  have hsub : x.holds.toFinset ⊆ (s.hold.slots.map Prod.fst).toFinset := fun k hk => by
    obtain ⟨h, hh, -⟩ := Option.map_eq_some_iff.1 (hlisted k (List.mem_toFinset.1 hk))
    exact List.mem_toFinset.2 (List.mem_map_of_mem (mem_slots_of_activeHold hh))
  have hrest : ∀ k ∈ (s.hold.slots.map Prod.fst).toFinset, k ∉ x.holds.toFinset → (s.holdAt k).amountIf p = 0 := by
    intro k _ hk
    cases hh : (s.holdAt k).activeHold with
    | none => exact HoldSlot.amountIf_none hh
    | some h =>
      obtain ⟨-, hlists, -⟩ := hactive _ (mem_slots_of_activeHold hh) h hh
      have hother : ¬ p h = true := fun hph =>
        hk (List.mem_toFinset.2 (hlists x (by rw [hp h hph, hx]; rfl)).2)
      rw [HoldSlot.amountIf_some hh, if_neg hother]
  rw [sumHolds_eq_sumOver hw, sumOver, sumOver, ← List.sum_toFinset _ hkeys, ← List.sum_toFinset _ hnodup]
  exact (Finset.sum_subset hsub hrest).symm

theorem sumOver_cons (s : State) (k : Nat) (l : List Nat) (p : Hold → Bool) :
    s.sumOver (k :: l) p = (s.holdAt k).amountIf p + s.sumOver l p := List.sum_cons

theorem sumOver_singleton (s : State) (k : Nat) (p : Hold → Bool) : s.sumOver [k] p = (s.holdAt k).amountIf p := by
  rw [sumOver_cons]
  rfl

theorem sumOver_congr {t : State} {l : List Nat} (h : ∀ k ∈ l, t.holdAt k = s.holdAt k) (p : Hold → Bool) :
    t.sumOver l p = s.sumOver l p :=
  congrArg List.sum (List.map_congr_left fun k hk => by rw [h k hk])

/-! ### The end of the holds of one folio -/

/-- The slot `k` holds an ACTIVE hold of folio `a`; the folio and the hold's guest exist. -/
def ActiveOf (s : State) (a k : Nat) : Prop :=
  ∃ h x g, (s.holdAt k).activeHold = some h ∧ h.folio = a ∧ s.folioAt a = some x ∧ s.guestAt h.guest = some g

/-- The state `t` is `s` after the end of the holds in the slots `l`, all of folio `a`. -/
structure Ended (s t : State) (a : Nat) (l : List Nat) : Prop where
  slots : ∀ j, t.holdAt j = if j ∈ l then ⟨.free, (s.holdAt j).generation⟩ else s.holdAt j
  folios : ∀ j, t.folioAt j = (s.folioAt j).map (fun f =>
    if j = a then { f with held := f.held - s.sumOver l (fun h => h.folio == a), holds := f.holds.diff l } else f)
  guests : ∀ j, t.guestAt j = (s.guestAt j).map (fun g =>
    { g with held := g.held - s.sumOver l (fun h => h.folio == a && h.guest == j) })
  sorted : Table.wf t.hold.slots
  frame : t = { s with
    hold := { s.hold with slots := t.hold.slots }
    folio := { s.folio with folios := t.folio.folios }
    roster := { s.roster with guests := t.roster.guests } }

namespace Ended

variable {t u : State} {a k : Nat} {l : List Nat}

theorem nil (hw : Table.wf s.hold.slots) : s.Ended s a [] where
  slots j := by simp
  folios j := by simp [sumOver]
  guests j := by simp [sumOver]
  sorted := hw
  frame := rfl

theorem holdAt_of_notMem {j : Nat} (h : s.Ended t a l) (hj : j ∉ l) : t.holdAt j = s.holdAt j := by
  rw [h.slots j, if_neg hj]

theorem activeOf {j : Nat} (h : s.Ended t a l) (hj : j ∉ l) (ha : s.ActiveOf a j) : t.ActiveOf a j := by
  obtain ⟨hold, x, g, hactive, hfolio, hx, hg⟩ := ha
  exact ⟨hold, _, _, by rw [h.holdAt_of_notMem hj, hactive], hfolio, by rw [h.folios, hx]; rfl,
    by rw [h.guests, hg]; rfl⟩

/-- The holds of a list end one after the other. -/
theorem cons (h : s.Ended t a [k]) (hl : t.Ended u a l) (hk : k ∉ l) : s.Ended u a (k :: l) := by
  have hsum : ∀ p, s.sumOver (k :: l) p = s.sumOver [k] p + t.sumOver l p := fun p => by
    rw [sumOver_cons, sumOver_singleton, sumOver_congr fun j hj => h.holdAt_of_notMem ?_]
    exact fun hjk => hk (List.mem_singleton.1 hjk ▸ hj)
  refine ⟨fun j => ?_, fun j => ?_, fun j => ?_, hl.sorted, ?_⟩
  · rw [hl.slots, h.slots]
    by_cases hjk : j = k
    · subst hjk; simp [hk]
    · simp [hjk]
  · rw [hl.folios, h.folios, Option.map_map]
    refine congrArg (Option.map · _) (funext fun f => ?_)
    by_cases hja : j = a
    · simp [hja, hsum, Nat.sub_sub]
    · simp [hja]
  · rw [hl.guests, h.guests, Option.map_map]
    refine congrArg (Option.map · _) (funext fun g => ?_)
    simp [hsum, Nat.sub_sub]
  · rw [hl.frame, h.frame]

/-- The end of one hold: its slot is FREE, and its folio and its guest hold that much less. -/
theorem releaseSlot (hw : Table.wf s.hold.slots) (h : s.ActiveOf a k) : s.Ended (s.releaseSlot k) a [k] := by
  obtain ⟨hold, x, g, hactive, rfl, hx, hg⟩ := h
  have hslot : s.releaseSlot k = s.endHold k hold := by
    rw [State.releaseSlot, HoldSlot.status_of_activeHold hactive]
  rw [hslot, endHold_eq hx hg]
  refine ⟨fun j => ?_, fun j => ?_, fun j => ?_, Table.putD_wf hw _ _ _, rfl⟩
  · by_cases hj : j = k
    · rw [if_pos (List.mem_singleton.2 hj), hj]
      exact Table.findD_putD_self hw _ _ _
    · rw [if_neg (List.mem_singleton.not.2 hj)]
      exact Table.findD_putD_ne _ hj _ _
  · by_cases hj : j = hold.folio
    · subst hj
      rw [hx]
      simp [folioAt, Table.find_put_self, sumOver_singleton, HoldSlot.amountIf_some hactive]
    · simp [folioAt, Table.find_put_ne _ hj, hj]
  · by_cases hj : j = hold.guest
    · subst hj
      rw [hg]
      simp [guestAt, Table.find_put_self, sumOver_singleton, HoldSlot.amountIf_some hactive]
    · simp [guestAt, Table.find_put_ne _ hj, sumOver_singleton, HoldSlot.amountIf_some hactive, Ne.symm hj]

theorem releaseHolds (hw : Table.wf s.hold.slots) (hn : l.Nodup) (h : ∀ k ∈ l, s.ActiveOf a k) :
    s.Ended (s.releaseHolds l) a l := by
  induction l generalizing s with
  | nil => exact nil hw
  | cons k l ih =>
    obtain ⟨hk, hn⟩ := List.nodup_cons.1 hn
    have hfirst := releaseSlot hw (h k List.mem_cons_self)
    refine hfirst.cons (ih hfirst.sorted hn fun j hj => hfirst.activeOf ?_ (h j (List.mem_cons_of_mem k hj))) hk
    exact fun hjk => hk (List.mem_singleton.1 hjk ▸ hj)

end Ended

/-! ### The hold list of a folio -/

section HoldList

variable (hs : s.HoldsSound) {a : Nat} {x : Folio} (hx : s.folioAt a = some x)

include hs hx

theorem activeOf_of_mem_holds {k : Nat} (hk : k ∈ x.holds) : s.ActiveOf a k := by
  obtain ⟨-, -, -, hactive, hfolios, -⟩ := hs
  obtain ⟨-, -, -, hlisted, -⟩ := hfolios (a, x) (Table.find_mem hx)
  obtain ⟨h, hh, hfolio⟩ := Option.map_eq_some_iff.1 (hlisted k hk)
  obtain ⟨-, -, hguest, -⟩ := hactive _ (mem_slots_of_activeHold hh) h hh
  obtain ⟨g, hg⟩ := Option.isSome_iff_exists.1 hguest
  exact ⟨h, x, g, hh, hfolio, hx, hg⟩

theorem ended_holds : s.Ended (s.releaseHolds x.holds) a x.holds := by
  have hactive := fun k => activeOf_of_mem_holds hs hx (k := k)
  obtain ⟨⟨-, -, -, -, -, hw, -⟩, -, -, -, hfolios, -⟩ := hs
  obtain ⟨-, hnodup, -⟩ := hfolios (a, x) (Table.find_mem hx)
  exact Ended.releaseHolds hw hnodup hactive

/-- The held total is what the folio's hold list adds up to (R102). -/
theorem held_eq_sumOver : x.held = s.sumOver x.holds (fun h => h.folio == a) := by
  rw [← sumHolds_eq_sumOver_holds hs hx (fun h hp => beq_iff_eq.1 hp)]
  obtain ⟨-, -, -, -, hfolios, -⟩ := hs
  exact (hfolios (a, x) (Table.find_mem hx)).1

theorem sum_amounts_holds : (x.holds.map (fun k => (s.holdAt k).amount)).sum = x.held := by
  rw [held_eq_sumOver hs hx]
  refine congrArg List.sum (List.map_congr_left fun k hk => ?_)
  obtain ⟨h, -, -, hh, hfolio, -⟩ := activeOf_of_mem_holds hs hx hk
  rw [HoldSlot.amount_of_activeHold hh, HoldSlot.amountIf_some hh, if_pos (beq_iff_eq.2 hfolio)]

end HoldList

end State

/-! ### RELEASE_FOLIO_HOLDS -/

theorem releaseFolioHolds_notFound {s : State} {k : Nat} (hk : k < 65536) (h : s.namedFolio k = none) :
    releaseFolioHolds (e16 k) s = .error (.notFound, []) := by
  simp only [releaseFolioHolds, u16_e16_of_lt hk, h, need_none, error_bind]

theorem releaseFolioHolds_ok {s : State} {k : Nat} {x : Folio} (hk : k < 65536) (h : s.namedFolio k = some x) :
    releaseFolioHolds (e16 k) s = .ok (s.releaseHolds x.holds,
      e16 x.holds.length ++ e32 (x.holds.map (fun j => (s.holdAt j).amount)).sum) := by
  simp only [releaseFolioHolds, u16_e16_of_lt hk, h, need_some, ok_bind]
  rfl

/-- Settles O38: the holds of the list end one after the other, and their amounts are what the sums held. -/
theorem releaseEndsEveryHold : Obligations.ReleaseEndsEveryHold := by
  constructor
  · intro s tag k h0 hrec hk hnone f
    exact next_refused (c := cmdReleaseFolioHolds) h0 (by decide) rfl (record_admitted hrec)
      (releaseFolioHolds_notFound hk (State.namedFolio_eq_none hnone))
  · intro s tag k x h0 hrec hs hk hcap hx f
    have hbody := releaseFolioHolds_ok hk (State.namedFolio_eq_some hcap hx)
    rw [State.sum_amounts_holds hs hx] at hbody
    have hended := State.ended_holds hs hx
    refine ⟨s.releaseHolds x.holds,
      next_done (c := cmdReleaseFolioHolds) h0 (by decide) rfl (record_admitted hrec) hbody, hended.slots,
      fun j => ?_, fun j => ?_, ?_, ?_, ?_, ?_, ?_⟩
    · rw [hended.folios]
      by_cases hj : j = k
      · have hdiff : x.holds.diff x.holds = [] := by
          obtain ⟨-, -, -, -, hfolios, -⟩ := hs
          obtain ⟨-, hnodup, -⟩ := hfolios (k, x) (Table.find_mem hx)
          rw [hnodup.sdiff_eq_filter]
          simp
        simp [hj, hx, ← State.held_eq_sumOver hs hx, hdiff]
      · simp [hj]
    · rw [hended.guests, State.sumHolds_eq_sumOver_holds hs hx]
      intro h hp
      exact beq_iff_eq.1 (Bool.and_eq_true_iff.1 hp).1
    all_goals rw [hended.frame]

end Sys2Proof.Machine
end
